-- ==== Sys2Proof/Word.lean ====
section
/-! DEFINITION. The word type of the frame memory and the identifiers of 00_scope.md Table 0-4. -/

namespace Sys2Proof

/-- A word of the frame memory: 16 bits (00_scope.md 1.3). -/
abbrev Word := BitVec 16

/-- A subscriber line L00 to L47. -/
abbrev Line := Fin 48

/-- A backhaul channel C01 to C12. C01 is `0`: channel Ck is the index `k - 1`. -/
abbrev Chan := Fin 12

/-- A directory entry D00 to D63. -/
abbrev EntryIx := Fin 64

/-- A tone descriptor T0 to T7. -/
abbrev ToneIx := Fin 8

/-- A signal code K00 to K19. -/
abbrev Code := Fin 20

/-- A digit as a subscriber dials it: 0 to 9, then `*` as 10 and `#` as 11 (Table 1-1). -/
abbrev Digit := Fin 12

/-- A decimal digit, the only kind a channel sends or receives (R57, R97). -/
abbrev Dec := Fin 10

/-- A word offset inside the 4096-word switch area (00_scope.md 4.3). -/
abbrev Offset := BitVec 12

/-- The channel number as the manual writes it: 1 for C01 to 12 for C12. -/
def Chan.number (k : Chan) : Nat := k.val + 1

end Sys2Proof
end

