-- ==== Sys2Proof/Syntax.lean ====
section
/-! DEFINITION. The commands of the part: one constructor per row of spec/opcode_table.json, in the table's order. -/

namespace Sys2Proof

/-- An access that a bus master presents on the master-side bus (R152): its direction, its 16-bit address and, for a
write, its data. Which master presents it has no effect. -/
inductive MasterAccess where
  | write (address data : Word)
  | read (address : Word)
deriving DecidableEq, Repr

/-- The two report buffers. -/
inductive BufferId where
  | a
  | b
deriving DecidableEq, Repr

/-- The steps of the part. -/
inductive Instr where
  /-- RESETN is asserted (R163). -/
  | resetAssertion
  /-- RESETN is released with the levels of AREA1, AREA0 read as a number 0 to 3 (R153, R164). -/
  | resetRelease (area : Fin 4)
  /-- A frame strobe with the levels of RRDY, RWAKE and SUPW (R161). -/
  | frameStrobe (rrdy rwake supw : Bool)
  /-- A master places an access on the bus (R158). -/
  | forwardedAccessPresented (access : MasterAccess)
  /-- The memory port finishes the access in service (R159). -/
  | portAccessComplete
  /-- A master write that no block takes (R154). -/
  | masterWrite (address data : Word)
  /-- A write of a line's sense word (R1). -/
  | senseWrite (n : Line) (w : Word)
  | onHookMinExpiry (n : Line)
  | interDigitPauseExpiry (n : Line)
  | offHook (n : Line)
  | onHook (n : Line)
  | digit (n : Line) (d : Digit)
  | misdial (n : Line)
  | firstDigitLimitExpiry (n : Line)
  | interDigitLimitExpiry (n : Line)
  | hotlineDelayExpiry (n : Line)
  | cleardownLimitExpiry (n : Line)
  | howlerTimeExpiry (n : Line)
  | startOrigination (n : Line)
  | clearCallsLineTeardown (n : Line)
  | clearCallsChannelClear (k : Chan)
  | queueTimerExpiry (n : Line)
  | unusableTimerExpiry (n : Line)
  /-- A write of a channel's signal-in word (R87). -/
  | signalInWrite (k : Chan) (w : Word)
  | seizeLimitExpiry (k : Chan)
  | digitHoldExpiry (k : Chan)
  | digitGapExpiry (k : Chan)
  | incomingDigitLimitExpiry (k : Chan)
  | releaseGuardExpiry (k : Chan)
  | recoveryTimeExpiry (k : Chan)
  | stallExpiry (k : Chan)
  | channelLinkUp (k : Chan)
  | channelLinkDown (k : Chan)
  | signalOutRead (k : Chan)
  | channelListenRead (k : Chan)
  | lineListenRead (n : Line)
  | lineDriveRead (n : Line)
  /-- A write of a code table word (R86). -/
  | signalCodeInstall (x : Code) (w : Word)
  /-- A write of a non-commit word of a table record, by its offset (R166). -/
  | pendingWordWrite (offset : Offset) (w : Word)
  | directoryCommit (d : EntryIx) (w : Word)
  | profileCommit (n : Line) (w : Word)
  | channelConfigCommit (k : Chan) (w : Word)
  | generalConfigCommit (w : Word)
  | toneDescriptorCommit (t : ToneIx) (w : Word)
  | ringCadenceCommit (w : Word)
  /-- A write of the command word with code 01H; `operand` is its low byte (Table 10-13). -/
  | start (operand : BitVec 8)
  | halt (operand : BitVec 8)
  | clearCalls (operand : BitVec 8)
  | rescan (operand : BitVec 8)
  | snapshot (operand : BitVec 8)
  | linkUp (operand : BitVec 8)
  | linkDown (operand : BitVec 8)
  | lineReset (operand : BitVec 8)
  | channelReset (operand : BitVec 8)
  | reportFlush (operand : BitVec 8)
  /-- A write of the command word whose code is 00H or none of 01H to 0AH (R171). -/
  | commandUndefined (w : Word)
  | echoWriteComplete
  | rescanReadComplete
  | snapshotDisposal
  | ready
  | readyLost
  | wakeEdge
  | startLimitExpiry
  | retryHoldoffExpiry
  | silenceExpiry
  | supplyAcceptance
  | alertLimitExpiry (n : Line)
  | cadenceStepEnd (n : Line)
  | toneStepEnd (n : Line)
  /-- A write of a report header's state word (R181). -/
  | headerStateWrite (buffer : BufferId) (w : Word)
  | reportWordWriteComplete
  | ageTimerExpiry
deriving DecidableEq, Repr

end Sys2Proof
end

