-- ==== Sys2Proof/Decode.lean ====
section
/-! DEFINITION. Commands as words of the opcode table's bits. -/

namespace Sys2Proof

/-- The command that a word spells by the bits of spec/opcode_table.json. No row of the table gives bits ("fields" is empty
in all 72), so no word spells a command (log 21). -/
def decodeTableWord (_nbits _w : Nat) : Option Instr := none

end Sys2Proof
end

