-- ==== Sys2Proof/Config.lean ====
section
/-! DEFINITION. Constants of every MW4812, and the free values: what the spec leaves open and nothing in Lean can evaluate. -/

namespace Sys2Proof

/-- Frame strobes in a millisecond (00_scope.md 4.5). -/
def Config.framesPerMs : Nat := 8

/-- Frame strobes in a second (00_scope.md 4.5). -/
def Config.framesPerSecond : Nat := 8000

/-- Strobes SUPW must hold a level before it is accepted (R129). -/
def Config.supplyHold : Nat := 800

/-- Records the report queue holds at most (R179). -/
def Config.reportQueueLimit : Nat := 8

/-- Records a report buffer holds (R184). -/
def Config.bufferRecords : Nat := 120

/-- Forwarded accesses started while an own request waits before the own request is started (R158). -/
def Config.runLimit : Nat := 16

/-- The depth to which one event follows a preempted channel to a new preemption attempt (R79). Each attempt inside another
uses up one of the twelve channels or one of the 48 entries, so that the bound is met in no state
(`Part.attempt_eq_preempt`). -/
def Config.preemptionRounds : Nat := 62

/-- FREE VALUE. The subject number of a report record that has no subject, by record kind code.
Table 10-15 gives subject type 0 for it and no number (log 7). -/
opaque Config.noSubjectNumber : BitVec 5 → BitVec 8

/-- FREE VALUE. Whether the path takes the own requests made in one event in the reverse of the order in
which the rules name them: "Two requests reaching the path together are taken in either order" (R157).
Applied to a count of the events that made more than one request (log 8). -/
opaque Config.ownRequestsReversed : Nat → Bool

end Sys2Proof
end

