-- ==== Sys2Proof/Machine/Records.lean ====
section
/-! DEFINITION. The types of the part's state, block by block, with the names the spec's tables give them. -/

namespace Sys2Proof.Machine

/-! ## Timers -/

/-- A timer that counts frame strobes. `due` says that a strobe brought it to its limit and that the expiry, an event
of the block that owns the timer (00_scope.md 4.5), has not been taken yet. -/
structure Timer where
  running : Bool
  count : Nat
  due : Bool
deriving DecidableEq, Repr

/-- Stopped at zero. -/
def Timer.stopped : Timer := ⟨false, 0, false⟩

/-- Set to zero and counting: a start or a restart. -/
def Timer.started : Timer := ⟨true, 0, false⟩

/-! ## Line supervisor (01_line_supervision.md) -/

/-- A loop value. -/
inductive Loop where
  | opened
  | closed
deriving DecidableEq, Repr

/-- The supervision phases of Table 1-2. -/
inductive Phase where
  | resting
  | breaking
  | making
  | steady
deriving DecidableEq, Repr

/-- The events the line supervisor hands to the line controller (R15). -/
inductive LineEvent where
  | offHook
  | onHook
  | digit (d : Digit)
  | misdial
deriving DecidableEq, Repr

/-- What the line supervisor holds for one line. `handed` holds the events that the line controller has not taken yet,
oldest first (R15). -/
structure Supervisor where
  loop : Loop
  candidate : Option Loop
  run : Nat
  phase : Phase
  timer : Timer
  pulses : Nat
  lastPresent : Bool
  handed : List LineEvent
deriving DecidableEq, Repr

/-! ## Classes, routes and the directory (03_number_translation.md) -/

/-- The precedence of a call. -/
inductive CallClass where
  | normal
  | priority
  | emergency
deriving DecidableEq, Repr

/-- What a directory entry does at completion. -/
inductive RouteKind where
  | deny
  | station
  | trunk
deriving DecidableEq, Repr

/-- An installed directory entry: the fields of Table 10-7, kept as they were written, because a commit whose valid
field is no stores the other fields unchecked (R47). -/
structure DirEntry where
  valid : Bool
  pfxLength : BitVec 3
  totalLength : BitVec 5
  strip : BitVec 3
  kind : BitVec 2
  callClass : BitVec 2
  nibbles : Vector (BitVec 4) 6
  preempt : Bool
  mask : BitVec 16
deriving DecidableEq, Repr

/-- The copy of a resolved entry kept in a line record (R51). `entryClass` is the entry's class and stays; `callClass` is the
effective class, the entry's until completion (R54). -/
structure Route where
  entry : EntryIx
  kind : RouteKind
  entryClass : CallClass
  callClass : CallClass
  mask : BitVec 16
  preempt : Bool
  totalLength : Nat
  strip : Nat
  forwarded : List Dec
  target : Option Line
deriving DecidableEq, Repr

/-- The causes of Table 2-1. -/
inductive Cause where
  | busy
  | congestion
  | unobtainable
  | preempted
deriving DecidableEq, Repr

/-- The verdicts of the number translator (03). -/
inductive Verdict where
  | needMore
  | routeStationLocal (target : Line)
  | routeTrunk
  | refuse (c : Cause)
deriving DecidableEq, Repr

/-! ## Line controller (02_line_states.md) -/

/-- The level codes of R148. -/
inductive LevelCode where
  | unity
  | boost
  | cut6
  | cut12
deriving DecidableEq, Repr

/-- The ring patterns of Table 10-3. -/
inductive RingPattern where
  | a
  | b
deriving DecidableEq, Repr

/-- An installed line profile (Table 10-3). -/
structure Profile where
  inService : Bool
  station : Nat
  level : LevelCode
  ringPattern : RingPattern
  reversal : Bool
  trunkAccess : Bool
  lineClass : CallClass
  hotline : Option EntryIx
  hotlineDelay : Nat
deriving DecidableEq, Repr

/-- The line states of Table 2-1, in the table's order. -/
inductive LineState where
  | outOfService
  | idle
  | dialing
  | queued
  | trunkSetup
  | localCalling
  | alerting
  | talk
  | cleardown
  | lockout
deriving DecidableEq, Repr

/-- The other end of a connection. -/
inductive Partner where
  | line (n : Line)
  | chan (k : Chan)
deriving DecidableEq, Repr

/-- Which end placed the call. -/
inductive Role where
  | caller
  | called
deriving DecidableEq, Repr

/-- The limit a line's state timer runs against (Table 2-4). The hotline delay, in seconds, is fixed at DIALING entry
(R21). -/
inductive LineLimit where
  | firstDigit
  | interDigit
  | hotlineDelay (seconds : Nat)
  | cleardown
  | howler
deriving DecidableEq, Repr

/-- One line record (Table 2-1). `limit` is the limit `timer` runs against. -/
structure LineRecord where
  profile : Profile
  state : LineState
  partner : Option Partner
  role : Option Role
  digits : List Digit
  route : Option Route
  cause : Option Cause
  timer : Timer
  limit : LineLimit
  firstDigitSeen : Bool
  answeredAsCaller : Bool
  howlerDone : Bool
deriving DecidableEq, Repr

/-! ## Channel allocator (04_channel_allocation.md) -/

/-- A wait queue entry (Table 4-1); its line is its key in the queue. -/
structure WaitEntry where
  callClass : CallClass
  mask : BitVec 16
  preempt : Bool
  outstanding : Option Chan
  glare : Bool
  queueTimer : Timer
  unusableTimer : Timer
deriving DecidableEq, Repr

/-- The three grant pointers of a channel (R64). -/
structure GrantPointers where
  normal : Option Line
  priority : Option Line
  emergency : Option Line
deriving DecidableEq, Repr

/-- What the channel allocator holds. -/
structure Allocator where
  waiters : Vector (Option WaitEntry) 48
  occupancy : List Chan
  pointers : Vector GrantPointers 12
deriving DecidableEq, Repr

/-! ## Channel signalling unit (05_channel_signalling.md) -/

/-- The channel states of Table 5-1, in the table's order. -/
inductive ChanState where
  | offline
  | idle
  | seizing
  | sending
  | awaitAnswer
  | incoming
  | ringingIn
  | rejecting
  | talk
  | clearing
  | releasing
  | fault
  | blockedFar
deriving DecidableEq, Repr

/-- OUT for a call the part placed, IN for one the exchange placed. -/
inductive Direction where
  | out
  | inward
deriving DecidableEq, Repr

/-- The phase of digit sending. -/
inductive SendPhase where
  | digit
  | gap
deriving DecidableEq, Repr

/-- The reject codes of Table 5-1. -/
inductive RejectCode where
  | busy
  | vacant
deriving DecidableEq, Repr

/-- A channel configuration (R168). -/
structure ChanConfig where
  enabled : Bool
  stallWatch : Bool
  stallLimit : Nat
deriving DecidableEq, Repr

/-- A change of the link handed to a channel (R120, R122). -/
inductive LinkChange where
  | up
  | down
deriving DecidableEq, Repr

/-- One channel record (Table 5-1). `accepted` none is NONE. `linkChanges` holds the link events handed to the channel
and not yet taken, oldest first (R109, R110). -/
structure ChanRecord where
  config : ChanConfig
  state : ChanState
  direction : Option Direction
  callClass : Option CallClass
  partner : Option Line
  accepted : Option Code
  candidate : Option Code
  run : Nat
  sendList : List Dec
  sendPosition : Nat
  sendPhase : SendPhase
  received : List Dec
  reject : Option RejectCode
  draining : Bool
  timer : Timer
  stall : Timer
  linkChanges : List LinkChange
deriving DecidableEq, Repr

/-! ## Link controller (06_the_backhaul_link.md) -/

/-- The link states of Table 6-1. -/
inductive LinkState where
  | off
  | starting
  | up
  | holdoff
deriving DecidableEq, Repr

/-- The link policies of Table 6-2. -/
inductive LinkPolicy where
  | off
  | onDemand
  | alwaysOn
deriving DecidableEq, Repr

/-- Which side caused a link start. -/
inductive Origin where
  | localSide
  | remote
deriving DecidableEq, Repr

/-- The causes of a change of link state, in the order of the table of R127. -/
inductive LinkCause where
  | demand
  | command
  | wake
  | policy
  | ready
  | startLimit
  | readyLost
  | silence
  | holdoffEnd
  | halt
deriving DecidableEq, Repr

/-- What the link controller holds (Table 6-4). `rrdySample` is the RRDY sample that makes a ready or a ready-lost event, and
`wakeEdge` a wake edge, from the strobe that saw it until it is taken or withdrawn (R116, log 17). -/
structure Link where
  state : LinkState
  origin : Option Origin
  demandFlag : Bool
  rememberedWake : Bool
  timer : Timer
  silence : Timer
  lastWake : Bool
  rrdySample : Option Bool
  wakeEdge : Bool
deriving DecidableEq, Repr

/-! ## Ringing and the supply (07_ringing_and_the_supply.md) -/

/-- What the supply monitor holds (Table 7-1). A hold count of 800 is an acceptance not yet taken. -/
structure Supply where
  warning : Bool
  hold : Nat
deriving DecidableEq, Repr

/-- The cadence position of a slot holder (Table 7-2). `next` is the step the position moves to, from the strobe that
ended its step until the move is taken (R138). -/
structure CadencePosition where
  step : Fin 4
  count : Nat
  next : Option (Fin 4)
deriving DecidableEq, Repr

/-- What the ring scheduler holds (Table 7-2): a line holds a slot when it has a position. -/
structure Ring where
  slots : Vector (Option CadencePosition) 48
  queue : List Line
  alert : Vector Timer 48
deriving DecidableEq, Repr

/-- One step of the ring cadence (Table 7-3), duration in milliseconds. -/
structure CadenceStep where
  on : Bool
  duration : Nat
deriving DecidableEq, Repr

/-! ## Tone unit (08_tones_and_substitution_patterns.md) -/

/-- One step of a tone descriptor (Table 8-3), duration in milliseconds. -/
structure ToneStep where
  start : Nat
  length : Nat
  duration : Nat
deriving DecidableEq, Repr

/-- The strobes left in a tone step. -/
inductive FramesLeft where
  | count (n : Nat)
  | held
deriving DecidableEq, Repr

/-- A line's tone position (Table 8-6). `next` is the step the position moves to and the frames left loaded for it, from the
strobe that ended its step until the move is taken (R146). -/
structure TonePosition where
  tone : Option ToneIx
  step : Fin 4
  left : FramesLeft
  phase : Nat
  next : Option (Fin 4 × FramesLeft)
deriving DecidableEq, Repr

/-- What the tone unit holds. -/
structure ToneUnit where
  descriptors : Vector (Vector ToneStep 4) 8
  cadence : Vector CadenceStep 4
  positions : Vector TonePosition 48
deriving DecidableEq, Repr

/-! ## General configuration and command unit (10_tables_commands_and_start_up.md) -/

/-- The local switching modes. -/
inductive SwitchingMode where
  | never
  | isolated
  | always
deriving DecidableEq, Repr

/-- The 27 fields of the general configuration (Table 10-4), each in the table's unit. -/
structure GenConfig where
  debounceCount : Nat
  breakMax : Nat
  onHookMin : Nat
  interDigitPause : Nat
  firstDigitLimit : Nat
  interDigitLimit : Nat
  cleardownLimit : Nat
  howlerTime : Nat
  alertLimit : Nat
  queueWaitLimit : Nat
  linkWaitLimit : Nat
  persistence : Nat
  seizeLimit : Nat
  digitHold : Nat
  digitGap : Nat
  incomingDigitLimit : Nat
  releaseGuard : Nat
  recoveryTime : Nat
  startLimit : Nat
  retryHoldoff : Nat
  silenceLimit : Nat
  policy : LinkPolicy
  switching : SwitchingMode
  ringBudget : Nat
  enableMask : BitVec 8
  urgentMask : BitVec 8
  ageLimit : Nat
deriving DecidableEq, Repr

/-- The part modes (R170). -/
inductive Mode where
  | halted
  | running
deriving DecidableEq, Repr

/-- The long command in progress and its progress (R176 to R178). -/
inductive LongCommand where
  | none
  | clearCalls (lines : List Line) (chans : List Chan)
  | rescan (next : Nat)
  | snapshot (next : Nat)
deriving DecidableEq, Repr

/-- What the disposal of a report record means to the command unit (R178). -/
inductive SnapshotTag where
  | notSnapshot
  /-- A SNAPSHOT-LINE or SNAPSHOT-CHANNEL record. -/
  | subject
  /-- SNAPSHOT-END with COMPLETE. -/
  | complete
  /-- SNAPSHOT-END with ABORTED. -/
  | aborted
deriving DecidableEq, Repr

/-- What becomes of a snapshot record (R179). -/
inductive Disposal where
  | written
  | dropped
deriving DecidableEq, Repr

/-- What the command unit holds (R171). `awaitingAborted` counts the records of an aborted SNAPSHOT whose disposal has
not been taken (R178). `rescanOutstanding` is the offset of the own read asked for, and `rescanStale` says that it
belongs to an aborted RESCAN (R177). `starting` holds the lines whose own event after START has not been taken (R173). -/
structure CommandUnit where
  mode : Mode
  long : LongCommand
  longSequence : BitVec 4
  sequence : BitVec 4
  echoOutstanding : Bool
  echoHeld : Option Word
  rescanOutstanding : Option Nat
  rescanStale : Bool
  awaitingAborted : Nat
  starting : List Line
  disposals : List (SnapshotTag × Disposal)
deriving DecidableEq, Repr

/-- The refusal reasons of Table 10-2, in the table's order. -/
inductive RefusalReason where
  | range
  | order
  | duplicate
  | preempt
  | stationLength
  | mask
  | empty
deriving DecidableEq, Repr

/-- The table records a commit can refuse (Table 10-1, R166). -/
inductive TableRecord where
  | profile (n : Line)
  | chanConfig (k : Chan)
  | general
  | code (x : Code)
  | tone (t : ToneIx)
  | cadence
  | entry (d : EntryIx)
deriving DecidableEq, Repr

/-- The results of a command that an echo and a record can carry (R172). -/
inductive CommandResult where
  | accepted
  | done
  | aborted
  | refusedBusy
  | refusedMode
  | refusedOperand
deriving DecidableEq, Repr

/-! ## Report writer (11_reports_and_attention.md) -/

/-- The record kinds of Table 10-15, in the order of their codes. -/
inductive RecordKind where
  | lineState
  | callRouted
  | queueTimeout
  | preempted
  | chanState
  | protocolError
  | chanStall
  | chanFault
  | linkState
  | supply
  | tableRefused
  | commandDone
  | commandRefused
  | restart
  | gap
  | snapshotLine
  | snapshotChannel
  | snapshotEnd
deriving DecidableEq, Repr

/-- The subject of a record (Table 10-15). -/
inductive Subject where
  | none
  | line (n : Line)
  | chan (k : Chan)
  | entry (d : EntryIx)
deriving DecidableEq, Repr

/-- A report record as it stands in the queue: stamped when it was handed (R179). -/
structure Record where
  kind : RecordKind
  subject : Subject
  detailA : Word
  detailB : Word
  stamp : Word
  snapshot : SnapshotTag
deriving DecidableEq, Repr

/-- The buffer states of Table 11-2. -/
inductive BufferState where
  | disarmed
  | armed
  | filling
  | full
deriving DecidableEq, Repr

/-- The reasons for closing a buffer (Table 10-14). -/
inductive CloseReason where
  | count
  | age
  | urgent
  | flush
deriving DecidableEq, Repr

/-- The own write the report writer has outstanding: the FILLING word (R182), word `i` of the GAP record or of the queue
head (R183), or step `i` of closing with its reason and clock (R185). With `awaitExpiry` it has none, and begins no record
before the age expiry that met the completion of the last one (R187, log 32). -/
inductive WriterJob where
  | none
  | takeBuffer
  | gapWord (i : Fin 4)
  | headWord (i : Fin 4)
  | awaitExpiry
  | closing (reason : CloseReason) (clock : Word) (i : Fin 4)
deriving DecidableEq, Repr

/-- What the report writer holds. `attnHeld` says that ATTN stays asserted for the buffer whose FULL write has completed,
until that completion is taken (R187, log 31). -/
structure Report where
  queue : List Record
  lost : Nat
  bufferA : BufferState
  bufferB : BufferState
  lastClosed : Option BufferId
  recordCount : Nat
  closePending : Option CloseReason
  age : Timer
  gap : Option Record
  job : WriterJob
  attnHeld : Bool
deriving DecidableEq, Repr

/-! ## Frame-memory path (09_the_frame_memory_path.md) -/

/-- The blocks that issue own accesses (R156). -/
inductive Requester where
  | reportWriter
  | commandUnit
  | tableLoader
deriving DecidableEq, Repr

/-- An own request: a write of `data` at a switch-area offset, or a read when there is no data. -/
structure OwnRequest where
  who : Requester
  offset : Nat
  data : Option Word
deriving DecidableEq, Repr

/-- The access in service on the memory port. A master read names the word it reads and the scaling of the result
(R155). An own access that RESETN overtook hands its completion to no block (R164): `orphan`. -/
inductive Service where
  | write (address data : Word)
  | read (address source : Word) (level : LevelCode)
  | own (address : Word) (data : Option Word) (who : Requester) (orphan : Bool)
deriving DecidableEq, Repr

/-- A snooped write that has been served and that its block has not taken yet (R154). -/
structure Handover where
  offset : Nat
  data : Word
deriving DecidableEq, Repr

/-- What the frame-memory path holds. `returned` is the address and word of the latest completed master read; `waitKept`
says that the access presented was held with WAIT when RESETN was asserted (R164). -/
structure Path where
  resetAsserted : Bool
  area : Fin 4
  inService : Option Service
  presented : Option MasterAccess
  ownQueue : List OwnRequest
  runCounter : Nat
  handovers : List Handover
  reportDone : Bool
  echoDone : Bool
  rescanDone : Option Word
  returned : Option (Word × Word)
  orderCount : Nat
  waitKept : Bool
deriving DecidableEq, Repr

/-- The frame counter and the report clock (R162), which the path owns and the report writer reads. -/
structure Clock where
  frame : Nat
  ms : Word
deriving DecidableEq, Repr

end Sys2Proof.Machine
end

