-- ==== Sys2Proof/Machine/State.lean ====
section
/-! DEFINITION. The state of the part, the frame memory it works on and the queue of commands; and the state after reset. -/

namespace Sys2Proof.Machine

/-- Sparse words by address: (address, word) pairs, addresses strictly rising, no entry equal to what an unlisted
address reads as. Used for the frame memory and for the pending copies of table words. -/
abbrev WordStore := List (Nat × Word)

/-- What an unlisted address reads as. For the pending copies the spec gives 0 (R166); for the frame memory before
anything has been written this is a DESIGN CHOICE (log 6, unsafe). -/
def WordStore.unlisted : Word := 0

/-- The canonical form: addresses strictly rising and no entry equal to the unlisted word. -/
def WordStore.wf : WordStore → Bool
  | [] => true
  | [(_, w)] => w != WordStore.unlisted
  | (a, w) :: (b, v) :: rest =>
    w != WordStore.unlisted && decide (a < b) && WordStore.wf ((b, v) :: rest)

/-- The blocks of the part. `outbox` holds the own requests made in the event being taken; it is empty between events. -/
structure Part where
  sup : Vector Supervisor 48
  lines : Vector LineRecord 48
  directory : Vector DirEntry 64
  alloc : Allocator
  chans : Vector ChanRecord 12
  codes : Vector (Option Word) 20
  link : Link
  supply : Supply
  ring : Ring
  tone : ToneUnit
  copies : WordStore
  gen : GenConfig
  cmd : CommandUnit
  report : Report
  clock : Clock
  outbox : List OwnRequest
deriving DecidableEq, Repr

/-- The machine: frame memory, frame-memory path, the blocks, and the commands that wait, first in first out. -/
structure State where
  mem : WordStore
  path : Path
  part : Part
  pending : List Instr
deriving DecidableEq, Repr

/-- Reasons a step would stop with a fault. The spec gives the part none: the path "does not refuse, drop or split an
access, and it returns no error to a master" (R152), and no rule stops the part, so there is no constructor. -/
inductive Fault where
deriving DecidableEq, Repr

/-- Reasons a step is refused. -/
inductive Refusal where
  /-- Raised by an arm of `exec` whose command has no meaning yet. Safe: the machine stops. No arm does so. -/
  | notModelled (mnemonic : String)
deriving DecidableEq, Repr

/-! ## Reset values, block by block -/

/-- R3. -/
def Supervisor.reset : Supervisor :=
  { loop := .opened, candidate := none, run := 0, phase := .resting, timer := .stopped, pulses := 0,
    lastPresent := false, handed := [] }

/-- The reset profile of Table 10-3. -/
def Profile.reset : Profile :=
  { inService := false, station := 0, level := .unity, ringPattern := .a, reversal := false, trunkAccess := false,
    lineClass := .normal, hotline := none, hotlineDelay := 0 }

/-- R19. The limit named by a stopped timer means nothing. -/
def LineRecord.reset : LineRecord :=
  { profile := .reset, state := .outOfService, partner := none, role := none, digits := [], route := none, cause := none,
    timer := .stopped, limit := .firstDigit, firstDigitSeen := false, answeredAsCaller := false, howlerDone := false }

/-- R45. -/
def DirEntry.reset : DirEntry :=
  { valid := false, pfxLength := 0, totalLength := 0, strip := 0, kind := 0, callClass := 0,
    nibbles := Vector.replicate 6 0, preempt := false, mask := 0 }

/-- R61, R63, R64. -/
def Allocator.reset : Allocator :=
  { waiters := Vector.replicate 48 none, occupancy := [], pointers := Vector.replicate 12 ⟨none, none, none⟩ }

/-- R83, R168. -/
def ChanRecord.reset : ChanRecord :=
  { config := ⟨false, true, 100⟩, state := .offline, direction := none, callClass := none, partner := none,
    accepted := none, candidate := none, run := 0, sendList := [], sendPosition := 0, sendPhase := .digit,
    received := [], reject := none, draining := false, timer := .stopped, stall := .stopped, linkChanges := [] }

/-- R115. -/
def Link.reset : Link :=
  { state := .off, origin := none, demandFlag := false, rememberedWake := false, timer := .stopped,
    silence := .stopped, lastWake := false, rrdySample := none, wakeEdge := false }

/-- R132. -/
def Ring.reset : Ring :=
  { slots := Vector.replicate 48 none, queue := [], alert := Vector.replicate 48 .stopped }

/-- The reset ring cadence of Table 7-4. -/
def resetCadence : Vector CadenceStep 4 := #v[⟨true, 400⟩, ⟨false, 200⟩, ⟨true, 400⟩, ⟨false, 2000⟩]

/-- R145. -/
def TonePosition.reset : TonePosition := { tone := none, step := 0, left := .count 0, phase := 0, next := none }

/-- R143, R137, R145. -/
def ToneUnit.reset : ToneUnit :=
  { descriptors := Vector.replicate 8 (Vector.replicate 4 ⟨0, 0, 0⟩), cadence := resetCadence,
    positions := Vector.replicate 48 .reset }

/-- The defaults of Table 10-4 (R169). -/
def GenConfig.reset : GenConfig :=
  { debounceCount := 40, breakMax := 120, onHookMin := 400, interDigitPause := 250, firstDigitLimit := 10,
    interDigitLimit := 6, cleardownLimit := 30, howlerTime := 20, alertLimit := 90, queueWaitLimit := 60,
    linkWaitLimit := 15, persistence := 3, seizeLimit := 2000, digitHold := 60, digitGap := 60,
    incomingDigitLimit := 3, releaseGuard := 5, recoveryTime := 1000, startLimit := 8, retryHoldoff := 30,
    silenceLimit := 120, policy := .off, switching := .isolated, ringBudget := 3, enableMask := 0xFF,
    urgentMask := 0x38, ageLimit := 1000 }

/-- R170, R171. -/
def CommandUnit.reset : CommandUnit :=
  { mode := .halted, long := .none, longSequence := 0, sequence := 0, echoOutstanding := false, echoHeld := none,
    rescanOutstanding := none, rescanStale := false, awaitingAborted := 0, starting := [], disposals := [] }

/-- R186, before the RESTART record of R180 joins the queue. R186 gives no record count; 0 is the model's choice (log 5). -/
def Report.reset : Report :=
  { queue := [], lost := 0, bufferA := .disarmed, bufferB := .disarmed, lastClosed := none, recordCount := 0,
    closePending := none, age := .stopped, gap := none, job := .none, attnHeld := false }

/-- Every block in its reset state, as while RESETN is asserted (R163). -/
def Part.reset : Part :=
  { sup := Vector.replicate 48 .reset, lines := Vector.replicate 48 .reset, directory := Vector.replicate 64 .reset,
    alloc := .reset, chans := Vector.replicate 12 .reset, codes := Vector.replicate 20 none, link := .reset,
    supply := ⟨false, 0⟩, ring := .reset, tone := .reset, copies := [], gen := .reset, cmd := .reset,
    report := .reset, clock := ⟨0, 0⟩, outbox := [] }

/-- The RESTART record that the release of RESETN generates, with the base sampled at the release (R180). Its detail B
is none, all ones (Table 11-1, log 11). -/
def Record.restart (area : Fin 4) : Record :=
  { kind := .restart, subject := .none, detailA := BitVec.ofNat 16 area.val, detailB := 0xFFFF, stamp := 0,
    snapshot := .notSnapshot }

/-- The blocks at the release of RESETN: reset values, and the RESTART record in the report queue (R164, R180). -/
def Part.released (area : Fin 4) : Part :=
  { Part.reset with report := { Report.reset with queue := [Record.restart area] } }

/-- The path after a release that found the port free. -/
def Path.released (area : Fin 4) : Path :=
  { resetAsserted := false, area := area, inService := none, presented := none, ownQueue := [], runCounter := 0,
    handovers := [], reportDone := false, echoDone := false, rescanDone := none, returned := none, orderCount := 0,
    waitKept := false }

/-- The machine right after the release of RESETN: HALTED, every line out of service, every channel OFFLINE, the link
OFF. The AREA pins are taken as 00 (DESIGN CHOICE, log 5); memory lists nothing (log 6). -/
def State.reset : State :=
  { mem := [], path := Path.released 0, part := Part.released 0, pending := [] }

end Sys2Proof.Machine
end

