-- ==== Sys2Proof/WellFormed.lean ====
section
/-! DEFINITION. Which commands name something the part has. Lines, channels, codes, entries and tones are bounded by
their types; two rows need a check. -/

namespace Sys2Proof

/-- The offset is a non-commit word of a multi-word table record (Table 10-1): a word of which the table loader holds a
pending copy (R166). -/
def isPendingOffset (off : Nat) : Bool :=
  (0x600 ≤ off && off < 0x6C0 && off % 4 != 3) ||
  (0x6C0 ≤ off && off < 0x6D8 && off % 2 == 0) ||
  (0x6E0 ≤ off && off < 0x6FF) ||
  (0x700 ≤ off && off < 0x740 && off % 8 != 7) ||
  (0x740 ≤ off && off < 0x747) ||
  (0x800 ≤ off && off < 0x900 && off % 4 != 3)

/-- The command code of a command word (Table 10-13). -/
def commandCode (w : Word) : BitVec 8 := w.extractLsb' 8 8

/-- The code is one of 01H to 0AH (Table 10-5). -/
def isCommandCode (c : BitVec 8) : Bool := 1 ≤ c.toNat && c.toNat ≤ 10

/-- PENDING_WORD_WRITE names a pending word; COMMAND_UNDEFINED holds a code that Table 10-5 does not list. Every other
command is well formed by its type. -/
def Instr.wellFormed : Instr → Bool
  | .pendingWordWrite off _ => isPendingOffset off.toNat
  | .commandUndefined w => !isCommandCode (commandCode w)
  | _ => true

end Sys2Proof
end

