-- ==== Sys2Proof/Machine/Operands.lean ====
section
/-! DEFINITION. The operand forms: the offsets of the switch area (Table 9-2), the word layouts of 10_tables 10.9, the
coding of report details, and the scaling of listen samples. -/

namespace Sys2Proof.Machine

/-! ## Offsets of the switch area (Table 9-2) -/

def lineTalkOffset (n : Line) : Nat := 0x000 + n.val
def lineListenOffset (n : Line) : Nat := 0x040 + n.val
def senseOffset (n : Line) : Nat := 0x080 + n.val
def lineDriveOffset (n : Line) : Nat := 0x0C0 + n.val
def chanTalkOffset (k : Chan) : Nat := 0x100 + k.val
def chanListenOffset (k : Chan) : Nat := 0x110 + k.val
def signalInOffset (k : Chan) : Nat := 0x120 + k.val
def signalOutOffset (k : Chan) : Nat := 0x130 + k.val
def silenceOffset : Nat := 0x140
def patternOffset (i : Fin 5) : Nat := 0x141 + i.val
def codeOffset (x : Code) : Nat := 0x150 + x.val
def toneStoreOffset (s : Nat) : Nat := 0x200 + s
def profileOffset (n : Line) (i : Nat) : Nat := 0x600 + 4 * n.val + i
def chanConfigOffset (k : Chan) (i : Nat) : Nat := 0x6C0 + 2 * k.val + i
def generalOffset (i : Nat) : Nat := 0x6E0 + i
def toneOffset (t : ToneIx) (i : Nat) : Nat := 0x700 + 8 * t.val + i
def cadenceOffset (i : Nat) : Nat := 0x740 + i
def commandOffset : Nat := 0x748
def echoOffset : Nat := 0x749
def entryOffset (d : EntryIx) (i : Nat) : Nat := 0x800 + 4 * d.val + i

/-- The header of a report buffer (Table 10-14). -/
def headerOffset : BufferId → Nat
  | .a => 0xC00
  | .b => 0xE00

/-- Word `i` of record `r` of a report buffer (Table 10-14). -/
def recordOffset (buf : BufferId) (r i : Nat) : Nat := headerOffset buf + 0x20 + 4 * r + i

/-- The first address of the switch area for a strap value (Table 0-5). -/
def areaBase (area : Fin 4) : Nat := 0x4000 * area.val

/-- The offset of an address in the switch area; none outside it (R152). -/
def offsetOf (area : Fin 4) (address : Word) : Option Nat :=
  if areaBase area ≤ address.toNat ∧ address.toNat < areaBase area + 0x1000 then
    some (address.toNat - areaBase area)
  else none

/-- The memory address of an offset (00_scope.md 4.3). -/
def addressOf (area : Fin 4) (off : Nat) : Word := BitVec.ofNat 16 (areaBase area + off)

/-- The windows whose writes are snooped, in the order of Table 9-2. -/
inductive SnoopWindow where
  | sense
  | signalIn
  | codes
  | profiles
  | chanConfigs
  | general
  | tones
  | cadence
  | command
  | directory
  | headerA
  | headerB
deriving DecidableEq, Repr

/-- The snooped window an offset lies in (Table 9-2, R154). -/
def snoopWindow (off : Nat) : Option SnoopWindow :=
  if 0x080 ≤ off ∧ off ≤ 0x0AF then some .sense
  else if 0x120 ≤ off ∧ off ≤ 0x12B then some .signalIn
  else if 0x150 ≤ off ∧ off ≤ 0x163 then some .codes
  else if 0x600 ≤ off ∧ off ≤ 0x6BF then some .profiles
  else if 0x6C0 ≤ off ∧ off ≤ 0x6D7 then some .chanConfigs
  else if 0x6E0 ≤ off ∧ off ≤ 0x6FF then some .general
  else if 0x700 ≤ off ∧ off ≤ 0x73F then some .tones
  else if 0x740 ≤ off ∧ off ≤ 0x747 then some .cadence
  else if off = 0x748 then some .command
  else if 0x800 ≤ off ∧ off ≤ 0x8FF then some .directory
  else if off = 0xC00 then some .headerA
  else if off = 0xE00 then some .headerB
  else none

/-- A number below a bound, when it is one. -/
def asFin (bound v : Nat) : Option (Fin bound) := if h : v < bound then some ⟨v, h⟩ else none

/-! ## Word layouts (10.9) -/

/-- Bits `lo` up to `lo + len - 1` of a word as a number. -/
def field (w : Word) (lo len : Nat) : Nat := (w.extractLsb' lo len).toNat

/-- The fields of a sense word (Table 10-6). -/
structure SenseWord where
  loop : Loop
  present : Bool
  code : Nat
deriving DecidableEq, Repr

/-- Table 10-6. -/
def SenseWord.ofWord (w : Word) : SenseWord :=
  { loop := if w.getLsbD 15 then .closed else .opened, present := w.getLsbD 14, code := field w 0 4 }

/-- Table 10-7: the entry that three pending words and a commit word form. -/
def DirEntry.ofWords (w0 w1 w2 w3 : Word) : DirEntry :=
  { valid := w0.getLsbD 15, pfxLength := w0.extractLsb' 12 3, totalLength := w0.extractLsb' 7 5,
    strip := w0.extractLsb' 4 3, kind := w0.extractLsb' 2 2, callClass := w0.extractLsb' 0 2,
    nibbles := #v[w1.extractLsb' 12 4, w1.extractLsb' 8 4, w1.extractLsb' 4 4, w1.extractLsb' 0 4,
                  w2.extractLsb' 12 4, w2.extractLsb' 8 4],
    preempt := w2.getLsbD 0, mask := w3 }

/-- The prefix of an entry as digit codes: its first prefix-length nibbles. -/
def DirEntry.pfx (e : DirEntry) : List Nat := (e.nibbles.toList.take e.pfxLength.toNat).map BitVec.toNat

/-- The kind codes of Table 10-7. Code 3 is no kind and no valid entry holds it (R46); it is read as DENY. -/
def RouteKind.ofCode (c : BitVec 2) : RouteKind :=
  if c = 1 then .station else if c = 2 then .trunk else .deny

/-- The class codes of Table 10-7. Code 3 is no class and no valid entry holds it (R46); it is read as NORMAL. -/
def CallClass.ofCode (c : BitVec 2) : CallClass :=
  if c = 1 then .priority else if c = 2 then .emergency else .normal

/-- Table 10-8: level codes. -/
def LevelCode.ofCode (c : Nat) : LevelCode :=
  match c with
  | 0 => .unity
  | 1 => .boost
  | 2 => .cut6
  | _ => .cut12

/-- Table 10-8: the profile that three pending words and a commit word form, or RANGE when a field is out of its range
(R167). -/
def Profile.ofWords (w0 w1 w2 w3 : Word) : Except RefusalReason Profile :=
  if 99 < field w0 0 7 ∨ 10 < field w3 0 4 ∨ 1 < field w1 5 2 then .error .range
  else .ok
    { inService := w0.getLsbD 15, station := field w0 0 7, level := .ofCode (field w1 0 2),
      ringPattern := if w1.getLsbD 2 then .b else .a, reversal := w1.getLsbD 3, trunkAccess := w1.getLsbD 4,
      lineClass := if field w1 5 2 = 1 then .priority else .normal,
      hotline := if w2.getLsbD 15 then asFin 64 (field w2 0 6) else none, hotlineDelay := field w3 0 4 }

/-- Table 10-9: a channel configuration, or RANGE (R168). -/
def ChanConfig.ofWords (w0 w1 : Word) : Except RefusalReason ChanConfig :=
  if w0.toNat < 10 ∨ 1000 < w0.toNat then .error .range
  else .ok { enabled := w1.getLsbD 15, stallWatch := w1.getLsbD 14, stallLimit := w0.toNat }

/-- Table 10-10: link policy codes. -/
def LinkPolicy.ofCode : Nat → Option LinkPolicy
  | 0 => some .off
  | 1 => some .onDemand
  | 2 => some .alwaysOn
  | _ => none

/-- Table 10-10: local switching mode codes. -/
def SwitchingMode.ofCode : Nat → Option SwitchingMode
  | 0 => some .never
  | 1 => some .isolated
  | 2 => some .always
  | _ => none

/-- `v` lies in the range `lo` to `hi`, both included (00_scope.md 4.3). -/
def within (lo v hi : Nat) : Bool := decide (lo ≤ v) && decide (v ≤ hi)

/-- Every numeric field lies in its range of Table 10-4. -/
def GenConfig.inRange (g : GenConfig) : Bool :=
  within 8 g.debounceCount 255 && within 20 g.breakMax 200 && within 200 g.onHookMin 2000 &&
  within 100 g.interDigitPause 1000 && within 1 g.firstDigitLimit 60 && within 1 g.interDigitLimit 30 &&
  within 5 g.cleardownLimit 120 && within 5 g.howlerTime 120 && within 10 g.alertLimit 300 &&
  within 0 g.queueWaitLimit 300 && within 1 g.linkWaitLimit 60 && within 2 g.persistence 16 &&
  within 500 g.seizeLimit 10000 && within 20 g.digitHold 200 && within 20 g.digitGap 200 &&
  within 1 g.incomingDigitLimit 10 && within 1 g.releaseGuard 30 && within 200 g.recoveryTime 5000 &&
  within 1 g.startLimit 60 && within 1 g.retryHoldoff 600 && within 10 g.silenceLimit 3600 &&
  within 1 g.ringBudget 6 && within 100 g.ageLimit 10000

/-- Table 10-10: the fields of the general configuration with a given policy and mode. `word i` is the word at
6E0H + i; `commit` is the word at 6FFH. -/
def GenConfig.ofFields (word : Nat → Word) (commit : Word) (policy : LinkPolicy) (switching : SwitchingMode) : GenConfig :=
  { debounceCount := (word 0).toNat, breakMax := (word 1).toNat, onHookMin := (word 2).toNat,
    interDigitPause := (word 3).toNat, firstDigitLimit := (word 4).toNat, interDigitLimit := (word 5).toNat,
    cleardownLimit := (word 6).toNat, howlerTime := (word 7).toNat, alertLimit := (word 8).toNat,
    queueWaitLimit := (word 9).toNat, linkWaitLimit := (word 10).toNat, persistence := (word 11).toNat,
    seizeLimit := (word 12).toNat, digitHold := (word 13).toNat, digitGap := (word 14).toNat,
    incomingDigitLimit := (word 15).toNat, releaseGuard := (word 16).toNat, recoveryTime := (word 17).toNat,
    startLimit := (word 18).toNat, retryHoldoff := (word 19).toNat, silenceLimit := (word 20).toNat,
    policy := policy, switching := switching, ringBudget := field commit 4 3,
    enableMask := (word 21).extractLsb' 0 8, urgentMask := (word 21).extractLsb' 8 8, ageLimit := (word 22).toNat }

/-- R169: the general configuration the words form, or RANGE, or ORDER. -/
def GenConfig.ofWords (word : Nat → Word) (commit : Word) : Except RefusalReason GenConfig :=
  match LinkPolicy.ofCode (field commit 0 2), SwitchingMode.ofCode (field commit 2 2) with
  | some policy, some switching =>
    let g := GenConfig.ofFields word commit policy switching
    if g.inRange then (if g.breakMax < g.onHookMin then .ok g else .error .order) else .error .range
  | _, _ => .error .range

/-- Table 10-11: one step of a tone descriptor from its duration word and its segment word. -/
def ToneStep.ofWords (duration segment : Word) : ToneStep :=
  if segment = 0xFFFF then { start := 0, length := 0, duration := duration.toNat }
  else { start := field segment 6 10, length := field segment 0 6 + 1, duration := duration.toNat }

/-- R143: the step lies inside the tone store. -/
def ToneStep.inRange (s : ToneStep) : Bool :=
  decide (s.start ≤ 1023) && decide (s.length ≤ 64) && decide (s.start + s.length ≤ 1024)

/-- R143: a tone descriptor from its eight words, or RANGE. -/
def toneOfWords (word : Nat → Word) : Except RefusalReason (Vector ToneStep 4) :=
  let steps : Vector ToneStep 4 :=
    #v[.ofWords (word 0) (word 1), .ofWords (word 2) (word 3), .ofWords (word 4) (word 5), .ofWords (word 6) (word 7)]
  if steps.toList.all ToneStep.inRange then .ok steps else .error .range

/-- R137: a ring cadence from its eight words (Table 10-12), or RANGE, or EMPTY. Words that meet both are refused with RANGE,
the model's choice (log 26). -/
def cadenceOfWords (word : Nat → Word) : Except RefusalReason (Vector CadenceStep 4) :=
  let ix : List Nat := [0, 1, 2, 3]
  if ix.any (fun s => 1 < (word (2 * s)).toNat || 10000 < (word (2 * s + 1)).toNat) then .error .range
  else if (word 1).toNat = 0 then .error .empty
  else .ok #v[⟨word 0 = 1, (word 1).toNat⟩, ⟨word 2 = 1, (word 3).toNat⟩, ⟨word 4 = 1, (word 5).toNat⟩,
              ⟨word 6 = 1, (word 7).toNat⟩]

/-- The command word of a code and an operand (Table 10-13). -/
def commandWord (code operand : BitVec 8) : Word := code ++ operand

/-- The operand of a command word (Table 10-13). -/
def commandOperand (w : Word) : BitVec 8 := w.extractLsb' 0 8

/-! ## Digits -/

/-- A digit a channel can send (R57). -/
def Digit.decimal (d : Digit) : Option Dec := asFin 10 d.val

/-- The digits of a prefix as a subscriber dials them. Only an invalid entry can hold a code over 11 (R46); such a code
is no digit and is left out (log 19). -/
def pfxDigits (e : DirEntry) : List Digit := e.pfx.filterMap (asFin 12)

/-! ## Trunk masks and signal codes -/

/-- The mask names channel Ck: bit k (Table 10-7). -/
def maskHas (mask : BitVec 16) (k : Chan) : Bool := mask.getLsbD k.number

/-- What a signal code means (Table 5-5). -/
inductive SignalCode where
  | idle
  | seize
  | proceed
  | ending
  | ringing
  | answer
  | clear
  | busy
  | vacant
  | blocked
  | digit (d : Dec)
deriving DecidableEq, Repr

/-- Table 5-5: the meaning of Kx. -/
def SignalCode.ofCode (x : Code) : SignalCode :=
  match x.val with
  | 0 => .idle
  | 1 => .seize
  | 2 => .proceed
  | 3 => .ending
  | 4 => .ringing
  | 5 => .answer
  | 6 => .clear
  | 7 => .busy
  | 8 => .vacant
  | 9 => .blocked
  | v => .digit (Fin.ofNat 10 (v - 10))

/-- Table 5-5: the number of the code that has a meaning. -/
def SignalCode.toCode : SignalCode → Code
  | .idle => 0
  | .seize => 1
  | .proceed => 2
  | .ending => 3
  | .ringing => 4
  | .answer => 5
  | .clear => 6
  | .busy => 7
  | .vacant => 8
  | .blocked => 9
  | .digit d => ⟨10 + d.val, by omega⟩

/-! ## Coding of report details (Table 10-15 and its note) -/

/-- An 8-bit item. -/
abbrev Item := BitVec 8

/-- An item that is none: all ones in its field. -/
def Item.absent : Item := 0xFF

/-- A detail that is one item, none. -/
def absentWord : Word := 0xFFFF

/-- A detail of one item. -/
def detail1 (v : Nat) : Word := BitVec.ofNat 16 v

/-- A detail of two items: the first in bits 15 to 8, the second in bits 7 to 0. -/
def detail2 (hi lo : Item) : Word := hi ++ lo

/-- A detail of three items: bits 15 to 8, 7 to 4 and 3 to 0. -/
def detail3 (hi : Item) (mid lo : BitVec 4) : Word := hi ++ mid ++ lo

def LineState.item : LineState → Item
  | .outOfService => 0
  | .idle => 1
  | .dialing => 2
  | .queued => 3
  | .trunkSetup => 4
  | .localCalling => 5
  | .alerting => 6
  | .talk => 7
  | .cleardown => 8
  | .lockout => 9

def Cause.item : Cause → Item
  | .busy => 0
  | .congestion => 1
  | .unobtainable => 2
  | .preempted => 3

def ChanState.item : ChanState → Item
  | .offline => 0
  | .idle => 1
  | .seizing => 2
  | .sending => 3
  | .awaitAnswer => 4
  | .incoming => 5
  | .ringingIn => 6
  | .rejecting => 7
  | .talk => 8
  | .clearing => 9
  | .releasing => 10
  | .fault => 11
  | .blockedFar => 12

def LinkState.item : LinkState → Item
  | .off => 0
  | .starting => 1
  | .up => 2
  | .holdoff => 3

def Origin.item : Origin → Item
  | .localSide => 0
  | .remote => 1

def LinkCause.item : LinkCause → Nat
  | .demand => 0
  | .command => 1
  | .wake => 2
  | .policy => 3
  | .ready => 4
  | .startLimit => 5
  | .readyLost => 6
  | .silence => 7
  | .holdoffEnd => 8
  | .halt => 9

def CallClass.item : CallClass → Item
  | .normal => 0
  | .priority => 1
  | .emergency => 2

def RouteKind.item : RouteKind → Item
  | .deny => 0
  | .station => 1
  | .trunk => 2

def RefusalReason.item : RefusalReason → Nat
  | .range => 0
  | .order => 1
  | .duplicate => 2
  | .preempt => 3
  | .stationLength => 4
  | .mask => 5
  | .empty => 6

def Phase.item4 : Phase → BitVec 4
  | .resting => 0
  | .breaking => 1
  | .making => 2
  | .steady => 3

def Loop.item4 : Loop → BitVec 4
  | .opened => 0
  | .closed => 1

def Direction.item4 : Direction → BitVec 4
  | .out => 0
  | .inward => 1

def CallClass.item4 : CallClass → BitVec 4
  | .normal => 0
  | .priority => 1
  | .emergency => 2

/-- An optional item. -/
def optItem {α : Type} (f : α → Item) : Option α → Item
  | none => Item.absent
  | some x => f x

/-- An optional 4-bit item. -/
def optItem4 {α : Type} (f : α → BitVec 4) : Option α → BitVec 4
  | none => 0xF
  | some x => f x

/-- A line number as an item. -/
def lineItem (n : Line) : Item := BitVec.ofNat 8 n.val

/-- A line or none as a detail of one item. -/
def lineDetail : Option Line → Word
  | none => absentWord
  | some n => detail1 n.val

/-- "Partner: subject type and number, or none" (Table 11-1). -/
def partnerDetail : Option Partner → Word
  | none => absentWord
  | some (.line n) => detail2 1 (lineItem n)
  | some (.chan k) => detail2 2 (BitVec.ofNat 8 k.number)

/-- The kind codes under Table 10-15. -/
def RecordKind.code : RecordKind → BitVec 5
  | .lineState => 0
  | .callRouted => 1
  | .queueTimeout => 2
  | .preempted => 3
  | .chanState => 4
  | .protocolError => 5
  | .chanStall => 6
  | .chanFault => 7
  | .linkState => 8
  | .supply => 9
  | .tableRefused => 10
  | .commandDone => 11
  | .commandRefused => 12
  | .restart => 13
  | .gap => 14
  | .snapshotLine => 15
  | .snapshotChannel => 16
  | .snapshotEnd => 17

/-- The groups of Table 11-1. -/
def RecordKind.group : RecordKind → Nat
  | .lineState => 0
  | .callRouted => 1
  | .queueTimeout => 1
  | .preempted => 1
  | .chanState => 2
  | .protocolError => 3
  | .chanStall => 3
  | .chanFault => 3
  | .linkState => 4
  | .supply => 5
  | .tableRefused => 6
  | .commandDone => 6
  | .commandRefused => 6
  | .restart => 7
  | .gap => 7
  | .snapshotLine => 7
  | .snapshotChannel => 7
  | .snapshotEnd => 7

/-- Subject types (Table 10-15). -/
def Subject.typeCode : Subject → BitVec 3
  | .none => 0
  | .line _ => 1
  | .chan _ => 2
  | .entry _ => 3

/-- Subject numbers (Table 10-15, Table 11-1 note). Of a record without a subject the spec gives no number: a free
value (log 7). -/
def Subject.number (kind : RecordKind) : Subject → BitVec 8
  | .none => Config.noSubjectNumber kind.code
  | .line n => BitVec.ofNat 8 n.val
  | .chan k => BitVec.ofNat 8 k.number
  | .entry d => BitVec.ofNat 8 d.val

/-- Word `i` of a report record (Table 10-15). -/
def Record.word (r : Record) (i : Fin 4) : Word :=
  match i with
  | 0 => r.kind.code ++ r.subject.typeCode ++ r.subject.number r.kind
  | 1 => r.detailA
  | 2 => r.detailB
  | 3 => r.stamp

/-- The subject of a TABLE-REFUSED record (R166). -/
def TableRecord.subject : TableRecord → Subject
  | .profile n => .line n
  | .chanConfig k => .chan k
  | .entry d => .entry d
  | _ => .none

/-- Detail A of a TABLE-REFUSED record: the record and its index (R166, note to Table 10-15). A record that has no index
codes it as none (log 12). -/
def TableRecord.detail : TableRecord → Word
  | .profile n => detail2 0 (BitVec.ofNat 8 n.val)
  | .chanConfig k => detail2 1 (BitVec.ofNat 8 k.number)
  | .general => detail2 2 Item.absent
  | .code x => detail2 3 (BitVec.ofNat 8 x.val)
  | .tone t => detail2 4 (BitVec.ofNat 8 t.val)
  | .cadence => detail2 5 Item.absent
  | .entry d => detail2 6 (BitVec.ofNat 8 d.val)

/-- The buffer states as state words (Table 10-14). -/
def BufferState.word : BufferState → Word
  | .disarmed => 0
  | .armed => 1
  | .filling => 2
  | .full => 3

/-- The close reasons (Table 10-14). -/
def CloseReason.word : CloseReason → Word
  | .count => 0
  | .age => 1
  | .urgent => 2
  | .flush => 3

/-- The results of Table 10-13. -/
def CommandResult.code : CommandResult → BitVec 4
  | .accepted => 1
  | .done => 2
  | .aborted => 3
  | .refusedBusy => 4
  | .refusedMode => 5
  | .refusedOperand => 6

/-- The echo value (Table 10-13, R172). -/
def echoWord (code : BitVec 8) (result : CommandResult) (sequence : BitVec 4) : Word :=
  code ++ result.code ++ sequence

/-! ## Scaling of listen samples -/

/-- R148: the sample scaled by a level code, computed exactly and then held to 16 bits. -/
def LevelCode.scale (level : LevelCode) (w : Word) : Word :=
  match level with
  | .unity => w
  | .boost => BitVec.ofInt 16 (max (-32768) (min 32767 (2 * w.toInt)))
  | .cut6 => BitVec.ofInt 16 (w.toInt / 2)
  | .cut12 => BitVec.ofInt 16 (w.toInt / 4)

end Sys2Proof.Machine
end

