-- ==== Sys2Proof/Machine/Flags.lean ====
section
/-! DEFINITION. The conditions the blocks derive from state each time they need them: modes, usability, quiet channels,
the selected tone, the code sent, the effective ring budget, local switching, demand, and the output pins. -/

namespace Sys2Proof.Machine

/-! ## The part mode and CLEAR-CALLS -/

/-- The part is RUNNING (R170). -/
def Part.isRunning (p : Part) : Bool := p.cmd.mode == .running

/-- CLEAR-CALLS is in progress: the CLEAR-CALLS flag of R176. -/
def Part.clearing (p : Part) : Bool :=
  match p.cmd.long with
  | .clearCalls _ _ => true
  | _ => false

/-! ## Lines -/

/-- A line state that CLEAR-CALLS tears down, and that a teardown acts on (R37, R43, R176). -/
def LineState.hasCall : LineState → Bool
  | .dialing | .queued | .trunkSetup | .localCalling | .alerting | .talk => true
  | _ => false

/-- Table 8-5: the selected tone of a line (R144). -/
def selectedTone (l : LineRecord) : Option ToneIx :=
  match l.state with
  | .dialing => if l.firstDigitSeen then none else some 0
  | .queued => some 7
  | .localCalling => some 1
  | .cleardown =>
    match l.cause with
    | some .busy => some 2
    | some .congestion => some 3
    | some .unobtainable => some 4
    | some .preempted => some 6
    | none => none
  | .lockout => if l.howlerDone then none else some 5
  | _ => none

/-- The lowest-numbered line with an in-service profile that holds the station number (R56, R98); no two in-service
profiles share one (R167). -/
def Part.stationLine (p : Part) (station : Nat) : Option Line :=
  (List.finRange 48).find? fun n => p.lines[n].profile.inService && p.lines[n].profile.station == station

/-! ## Channels -/

/-- The states a channel can be in without a call (R63, R83): IDLE, OFFLINE, FAULT, BLOCKED-FAR. They are the quiet states
of R121. -/
def ChanState.quiet : ChanState → Bool
  | .idle | .offline | .fault | .blockedFar => true
  | _ => false

/-- The states in which a channel told to clear goes to CLEARING (R101), which are those of a preemption victim (R77). -/
def ChanState.clearable : ChanState → Bool
  | .seizing | .sending | .awaitAnswer | .incoming | .ringingIn | .talk => true
  | _ => false

/-- R62: the channel is usable. -/
def Part.usable (p : Part) (k : Chan) : Bool :=
  let c := p.chans[k]
  c.config.enabled && !c.draining && p.link.state == .up &&
    !(c.state == .offline || c.state == .fault || c.state == .blockedFar)

/-- Some channel of the mask is usable (R73). -/
def Part.maskUsable (p : Part) (mask : BitVec 16) : Bool :=
  (List.finRange 12).any fun k => maskHas mask k && p.usable k

/-- Table 5-6: the code a channel sends. In SENDING, phase DIGIT, it is the DIGIT code of the digit at the send
position. -/
def codeSent (c : ChanRecord) : SignalCode :=
  match c.state with
  | .offline => .blocked
  | .idle => .idle
  | .seizing => .seize
  | .sending =>
    match c.sendPhase with
    | .digit => .digit (c.sendList.getD c.sendPosition 0)
    | .gap => .seize
  | .awaitAnswer => .ending
  | .incoming => .proceed
  | .ringingIn => .ringing
  | .rejecting =>
    match c.reject with
    | some .vacant => .vacant
    | _ => .busy
  | .talk => .answer
  | .clearing => .clear
  | .releasing => .idle
  | .fault => .blocked
  | .blockedFar => .idle

/-! ## Allocator -/

/-- R66: the entry is demand-raising. -/
def Part.demandRaising (p : Part) (e : WaitEntry) : Bool := e.callClass != .normal || !p.supply.warning

/-- R66: demand is outstanding. -/
def Part.demandOutstanding (p : Part) : Bool :=
  p.alloc.waiters.toList.any fun w =>
    match w with
    | some e => p.demandRaising e && !p.maskUsable e.mask
    | none => false

/-! ## Link -/

/-- R121: the conditions under which the silence timer runs. -/
def Part.silenceHolds (p : Part) : Bool :=
  p.link.state == .up && p.link.origin == some .localSide && p.gen.policy == .onDemand &&
    p.chans.toList.all fun c => c.state.quiet

/-- The LKEN output (Table 6-1, R115). -/
def Part.linkEnable (p : Part) : Bool := p.link.state == .starting || p.link.state == .up

/-! ## Ringing -/

/-- R131: the effective ring budget. -/
def Part.effectiveBudget (p : Part) : Nat := if p.supply.warning then 1 else p.gen.ringBudget

/-- How many ring slots are held (R134). -/
def slotsHeld (slots : Vector (Option CadencePosition) 48) : Nat := slots.toList.countP Option.isSome

/-- R137: the length of the installed cadence. -/
def cadenceLength (steps : Vector CadenceStep 4) : Nat :=
  (steps.toList.takeWhile fun s => s.duration != 0).length

/-! ## Number translation -/

/-- R55: local switching is in force. -/
def Part.localSwitching (p : Part) : Bool :=
  match p.gen.switching with
  | .always => true
  | .isolated => p.link.state != .up
  | .never => false

/-! ## Reports -/

/-- The buffer that is FILLING in the part's view (11.3). -/
def Report.filling (r : Report) : Option BufferId :=
  if r.bufferA = .filling then some .a else if r.bufferB = .filling then some .b else none

/-- The state of a buffer in the part's view. -/
def Report.buffer (r : Report) : BufferId → BufferState
  | .a => r.bufferA
  | .b => r.bufferB

/-- The closing write on its way is that of FULL (R185). -/
def Report.fullWriting (r : Report) : Bool :=
  match r.job with
  | .closing _ _ i => i == 3
  | _ => false

/-- The ATTN output (R185): a buffer is FULL in the part's view, or ATTN stays asserted for a buffer whose FULL write has
completed (R187, log 31). -/
def Part.attention (p : Part) : Bool :=
  p.report.bufferA == .full || p.report.bufferB == .full || p.report.attnHeld

/-! ## Frame-memory path -/

/-- The WAIT output (R160): a forwarded access is presented and not yet started. While RESETN is asserted it stays asserted
for an access that was held at the assertion (R164), and for no other. -/
def Path.wait (h : Path) : Bool := h.presented.isSome && (!h.resetAsserted || h.waitKept)

/-- The memory port is free and no access waits for it. -/
def Path.idle (h : Path) : Bool := h.inService.isNone && h.presented.isNone && h.ownQueue.isEmpty

end Sys2Proof.Machine
end

