-- ==== Sys2Proof/Machine/Ops.lean ====
section
/-! DEFINITION. The named operations over memory and state: word stores, timers, record updates, handing a report record,
own requests, entering a line, channel or link state, and the ring scheduler's slots. -/

namespace Sys2Proof.Machine

/-! ## Word stores -/

/-- The word at an address. -/
def WordStore.read (a : Nat) : WordStore → Word
  | [] => WordStore.unlisted
  | (b, w) :: rest => if a = b then w else WordStore.read a rest

/-- `m` without the address `a`. -/
def WordStore.erase (a : Nat) : WordStore → WordStore
  | [] => []
  | (b, w) :: rest => if a = b then rest else (b, w) :: WordStore.erase a rest

/-- `m` with `w`, a word that must be listed, at the address `a`. -/
def WordStore.insert (a : Nat) (w : Word) : WordStore → WordStore
  | [] => [(a, w)]
  | (b, v) :: rest =>
    if a < b then (a, w) :: (b, v) :: rest
    else if a = b then (a, w) :: rest
    else (b, v) :: WordStore.insert a w rest

/-- Writing a word. Writing what an unlisted address reads as removes the entry, so equal memories are equal data. -/
def WordStore.write (m : WordStore) (a : Nat) (w : Word) : WordStore :=
  if w = WordStore.unlisted then m.erase a else m.insert a w

/-! ## Timers -/

/-- One frame strobe of a timer against the limit in force, in frames (00_scope.md 4.5). With no limit it does not
expire. -/
def Timer.tick (t : Timer) (limit : Option Nat) : Timer :=
  if t.running then
    { t with
      count := t.count + 1
      due := t.due ||
        match limit with
        | some l => decide (l ≤ t.count + 1)
        | none => false }
  else t

/-! ## Updates of one record -/

def Part.setSupervisor (p : Part) (n : Line) (v : Supervisor) : Part := { p with sup := p.sup.set n.val v }

def Part.setLine (p : Part) (n : Line) (l : LineRecord) : Part := { p with lines := p.lines.set n.val l }

def Part.setChan (p : Part) (k : Chan) (c : ChanRecord) : Part := { p with chans := p.chans.set k.val c }

def Part.setWaiter (p : Part) (n : Line) (w : Option WaitEntry) : Part :=
  { p with alloc := { p.alloc with waiters := p.alloc.waiters.set n.val w } }

def Part.setTonePosition (p : Part) (n : Line) (v : TonePosition) : Part :=
  { p with tone := { p.tone with positions := p.tone.positions.set n.val v } }

def Part.setLong (p : Part) (c : LongCommand) : Part := { p with cmd := { p.cmd with long := c } }

def Part.setLinkChanges (p : Part) (k : Chan) (changes : List LinkChange) : Part :=
  p.setChan k { p.chans[k] with linkChanges := changes }

/-- The line record with a partner and role. -/
def LineRecord.joined (l : LineRecord) (partner : Option Partner) (role : Option Role) : LineRecord :=
  { l with partner := partner, role := role }

/-- The line record with a route. -/
def LineRecord.routed (l : LineRecord) (route : Option Route) : LineRecord := { l with route := route }

/-- The line record with a digit buffer. -/
def LineRecord.withDigits (l : LineRecord) (digits : List Digit) : LineRecord := { l with digits := digits }

/-- R24: the line record after a digit. -/
def LineRecord.dialled (l : LineRecord) (d : Digit) : LineRecord :=
  { l with firstDigitSeen := true, digits := l.digits ++ [d] }

/-- R25: the line record with its state timer restarted against the inter-digit limit. -/
def LineRecord.waitDigit (l : LineRecord) : LineRecord := { l with timer := .started, limit := .interDigit }

/-- The line record with answered-as-caller set. -/
def LineRecord.answered (l : LineRecord) (asCaller : Bool) : LineRecord := { l with answeredAsCaller := asCaller }

/-- R38: the line record when the howler time has run out. -/
def LineRecord.howled (l : LineRecord) : LineRecord := { l with howlerDone := true, timer := .stopped }

/-- The line record with a profile. -/
def LineRecord.withProfile (l : LineRecord) (profile : Profile) : LineRecord := { l with profile := profile }

/-- The partner and role of a line. -/
def Part.setPartner (p : Part) (n : Line) (partner : Option Partner) (role : Option Role) : Part :=
  p.setLine n (p.lines[n].joined partner role)

/-- The partner line of a channel. -/
def Part.setChanPartner (p : Part) (k : Chan) (partner : Option Line) : Part :=
  p.setChan k { p.chans[k] with partner := partner }

/-! ## Report records and own requests -/

/-- R179: the group is a member of the report enable mask, or is G7. -/
def Part.groupEnabled (p : Part) (kind : RecordKind) : Bool :=
  kind.group == 7 || p.gen.enableMask.getLsbD kind.group

/-- R179: what becomes of a record that is generated: it joins the queue, or is dropped and counted. -/
def Part.enqueueRecord (p : Part) (r : Record) : Part :=
  if p.report.queue.length < Config.reportQueueLimit then
    { p with report := { p.report with queue := p.report.queue ++ [r] } }
  else
    { p with
      report := { p.report with lost := min 65535 (p.report.lost + 1) }
      cmd := { p.cmd with
        disposals := if r.snapshot = .notSnapshot then p.cmd.disposals else p.cmd.disposals ++ [(r.snapshot, .dropped)] } }

/-- R179: a block hands a record to the report writer, stamped with the report clock. -/
def Part.hand (p : Part) (kind : RecordKind) (subject : Subject) (detailA detailB : Word)
    (snapshot : SnapshotTag := .notSnapshot) : Part :=
  if p.groupEnabled kind then
    p.enqueueRecord { kind := kind, subject := subject, detailA := detailA, detailB := detailB, stamp := p.clock.ms,
                      snapshot := snapshot }
  else p

/-- A block hands an own request to the path (R156); the path takes it at the end of the event. -/
def Part.request (p : Part) (who : Requester) (offset : Nat) (data : Option Word) : Part :=
  { p with outbox := p.outbox ++ [⟨who, offset, data⟩] }

/-- R166: a refused commit hands a TABLE-REFUSED record. -/
def Part.tableRefused (p : Part) (t : TableRecord) (reason : RefusalReason) : Part :=
  p.hand .tableRefused t.subject t.detail (detail1 reason.item)

/-- R172: the echo value is requested as an own write, or held while an echo write is outstanding. -/
def Part.requestEcho (p : Part) (w : Word) : Part :=
  if p.cmd.echoOutstanding then { p with cmd := { p.cmd with echoHeld := some w } }
  else { p with cmd := { p.cmd with echoOutstanding := true } }.request .commandUnit echoOffset (some w)

/-- R172: a command ends with DONE, or a long command with ABORTED: COMMAND-DONE and the echo, under a sequence count. -/
def Part.commandEnded (p : Part) (code : BitVec 8) (sequence : BitVec 4) (aborted : Bool) : Part :=
  (p.hand .commandDone .none (detail2 code (sequence.setWidth 8)) (detail1 (if aborted then 1 else 0))).requestEcho
    (echoWord code (if aborted then .aborted else .done) sequence)

/-! ## Tone positions -/

/-- R145: the frames left that a duration in milliseconds loads. -/
def framesOf (duration : Nat) : FramesLeft :=
  if duration = 0 then .held else .count (Config.framesPerMs * duration)

/-- R145: a tone position restarted for a selected tone. -/
def TonePosition.restarted (descriptors : Vector (Vector ToneStep 4) 8) (tone : Option ToneIx) : TonePosition :=
  { tone := tone, step := 0, phase := 0, next := none,
    left := match tone with
      | none => .count 0
      | some t => framesOf descriptors[t][0].duration }

/-- R144, R145: the selected tone is judged; a change restarts the position. -/
def Part.judgeTone (p : Part) (n : Line) : Part :=
  let tone := selectedTone p.lines[n]
  if p.tone.positions[n].tone = tone then p else p.setTonePosition n (.restarted p.tone.descriptors tone)

/-! ## Entering a line state -/

/-- Table 2-4: the state timer and its limit on entering a state. -/
def LineRecord.timerOnEntry (l : LineRecord) (st : LineState) (howlerDone : Bool) : Timer × LineLimit :=
  match st with
  | .dialing =>
    if l.profile.hotline.isSome && l.profile.hotlineDelay != 0 then (.started, .hotlineDelay l.profile.hotlineDelay)
    else (.started, .firstDigit)
  | .cleardown => (.started, .cleardown)
  | .lockout => if howlerDone then (.stopped, l.limit) else (.started, .howler)
  | _ => (.stopped, l.limit)

/-- R19, R21: the line record on entering a state. `cause` counts in CLEARDOWN, `howlerDone` in LOCKOUT. -/
def LineRecord.enter (l : LineRecord) (st : LineState) (cause : Option Cause) (howlerDone : Bool) : LineRecord :=
  let timing := l.timerOnEntry st howlerDone
  let l := { l with state := st, timer := timing.1, limit := timing.2, cause := none }
  match st with
  | .idle | .outOfService =>
    { l with partner := none, role := none, digits := [], route := none, firstDigitSeen := false,
             answeredAsCaller := false, howlerDone := false }
  | .dialing => { l with firstDigitSeen := false }
  | .cleardown => { l with cause := cause }
  | .lockout => { l with howlerDone := howlerDone }
  | _ => l

/-- R44: the LINE-STATE record of a line. -/
def Part.handLineState (p : Part) (n : Line) : Part :=
  let l := p.lines[n]
  p.hand .lineState (.line n) (detail2 l.state.item (optItem Cause.item l.cause)) (partnerDetail l.partner)

/-- A line enters a state (R19, R21, R44, R144). -/
def Part.enterLine (p : Part) (n : Line) (st : LineState) (cause : Option Cause := none) (howlerDone : Bool := false) :
    Part :=
  ((p.setLine n (p.lines[n].enter st cause howlerDone)).judgeTone n).handLineState n

/-! ## What the allocator and the link controller judge at each channel event -/

/-- R73: an entry's unusable timer after the mask has been judged afresh. -/
def WaitEntry.judged (e : WaitEntry) (usable : Bool) : WaitEntry :=
  if usable then { e with unusableTimer := .stopped }
  else if e.unusableTimer.running then e
  else { e with unusableTimer := .started }

/-- R73: the allocator judges the mask of every entry afresh. -/
def Part.judgeUnusable (p : Part) : Part :=
  { p with alloc := { p.alloc with
      waiters := Vector.ofFn fun n => p.alloc.waiters[n].map fun e => e.judged (p.maskUsable e.mask) } }

/-- R121: the silence timer after the conditions have been judged afresh. -/
def Part.judgeSilence (p : Part) : Part :=
  { p with link := { p.link with
      silence := if p.silenceHolds then (if p.link.silence.running then p.link.silence else .started) else .stopped } }

/-- R121: a restart of the silence timer, if it is running. -/
def Part.restartSilence (p : Part) : Part :=
  if p.link.silence.running then { p with link := { p.link with silence := .started } } else p

/-! ## Entering a channel state -/

/-- R84: the state that a channel which would enter `st` enters. -/
def ChanRecord.destination (c : ChanRecord) (st : ChanState) : ChanState :=
  if c.draining && (st == .idle || st == .fault || st == .blockedFar) then .offline else st

/-- Table 5-4: the state timer on entering a state. -/
def ChanRecord.timerOnEntry (c : ChanRecord) (st : ChanState) : Timer :=
  match st with
  | .seizing | .sending | .incoming | .rejecting | .clearing | .releasing => .started
  | .fault => if c.accepted = some SignalCode.idle.toCode then .started else .stopped
  | _ => .stopped

/-- R83: what entering IDLE, OFFLINE, FAULT or BLOCKED-FAR clears. -/
def ChanRecord.emptied (c : ChanRecord) : ChanRecord :=
  { c with direction := none, callClass := none, partner := none, sendList := [], sendPosition := 0, sendPhase := .digit,
           received := [] }

/-- R83: what entering OFFLINE clears besides. -/
def ChanRecord.offlined (c : ChanRecord) : ChanRecord :=
  { c with accepted := none, candidate := none, run := 0, draining := false, stall := .stopped }

/-- R83 to R85: the channel record on entering a state. `reject` counts in REJECTING. -/
def ChanRecord.enter (c : ChanRecord) (wanted : ChanState) (reject : Option RejectCode) : ChanRecord :=
  let st := c.destination wanted
  let entered :=
    { c with
      state := st
      timer := c.timerOnEntry st
      reject := if st = .rejecting then reject else none
      stall := if c.state = .offline ∧ st ≠ .offline ∧ c.config.stallWatch then .started else c.stall
      sendPhase := if st = .sending then .digit else c.sendPhase }
  let cleared := if st.quiet then entered.emptied else entered
  if st = .offline then cleared.offlined else cleared

/-- R113: the CHANNEL-STATE record of a channel. -/
def Part.handChanState (p : Part) (k : Chan) : Part :=
  let c := p.chans[k]
  p.hand .chanState (.chan k)
    (detail3 c.state.item (optItem4 Direction.item4 c.direction) (optItem4 CallClass.item4 c.callClass))
    (lineDetail c.partner)

/-- R63: the occupancy list after a channel has gone from one state to another. -/
def occupancyAfter (list : List Chan) (k : Chan) (old new : ChanState) : List Chan :=
  if new.quiet then list.filter (· != k)
  else if old = .idle ∧ (new = .seizing ∨ new = .incoming) then list ++ [k]
  else list

/-- A channel enters a state (R63, R73, R83 to R85, R113, R121). What a channel free, or a victim that leaves the
occupancy list, brings about is in Calls.lean. -/
def Part.enterChan (p : Part) (k : Chan) (wanted : ChanState) (reject : Option RejectCode := none) : Part :=
  let old := p.chans[k].state
  let p := (p.setChan k (p.chans[k].enter wanted reject)).handChanState k
  let new := p.chans[k].state
  let p := { p with alloc := { p.alloc with occupancy := occupancyAfter p.alloc.occupancy k old new } }
  let p := p.judgeUnusable.judgeSilence
  if old = .idle ∧ new.quiet ∧ new ≠ .idle then p.restartSilence else p

/-! ## Entering a link state -/

/-- R115: the link controller's state on a change of link state. `origin` is the origin of a start. A ready or ready-lost
event of the state that is left is not taken in another (R116, R119, R128). -/
def Link.enter (l : Link) (st : LinkState) (origin : Option Origin) : Link :=
  { l with
    state := st
    origin := match st with
      | .starting => origin
      | .up => l.origin
      | _ => none
    demandFlag := if st = .starting ∨ st = .off then false else l.demandFlag
    rememberedWake := if st = .starting ∨ st = .off then false else l.rememberedWake
    timer := if st = .starting ∨ st = .holdoff then .started else .stopped
    silence := if st = .up then l.silence else .stopped
    rrdySample := none }

/-- R127: the LINK-STATE record. -/
def Part.handLinkState (p : Part) (cause : LinkCause) : Part :=
  p.hand .linkState .none (detail2 p.link.state.item (optItem Origin.item p.link.origin)) (detail1 cause.item)

/-- R120, R109: link UP is handed to each channel that is OFFLINE and enabled, or that has a link change to take first. -/
def Part.postLinkUp (p : Part) : Part :=
  { p with chans := Vector.ofFn fun k =>
      let c := p.chans[k]
      if c.config.enabled && (c.state == .offline || !c.linkChanges.isEmpty) then
        { c with linkChanges := c.linkChanges ++ [.up] }
      else c }

/-- R122, R110: link leaves UP is handed to each channel that is not OFFLINE, or that has a link change to take first. -/
def Part.postLinkDown (p : Part) : Part :=
  { p with chans := Vector.ofFn fun k =>
      let c := p.chans[k]
      if c.state != .offline || !c.linkChanges.isEmpty then { c with linkChanges := c.linkChanges ++ [.down] } else c }

/-- The link enters a state other than by HALT (R115, R120 to R122, R127). -/
def Part.enterLink (p : Part) (st : LinkState) (origin : Option Origin) (cause : LinkCause) : Part :=
  let old := p.link.state
  let p := { p with link := p.link.enter st origin }.handLinkState cause
  if st = .up then p.postLinkUp.judgeSilence
  else if old = .up then p.postLinkDown.judgeUnusable
  else p

/-- R66, R117, R118: the allocator hands demand to the link controller. -/
def Part.demand (p : Part) : Part :=
  if p.isRunning ∧ p.gen.policy ≠ .off ∧ p.link.state = .off then p.enterLink .starting (some .localSide) .demand
  else p

/-! ## Ring slots -/

/-- The position of a line that has just been granted a slot (R133, R134). -/
def CadencePosition.start : CadencePosition := ⟨0, 0, none⟩

/-- R134: slots are granted from the queue head while fewer are held than the budget. -/
def grantFrom (budget : Nat) : List Line → Vector (Option CadencePosition) 48 →
    List Line × Vector (Option CadencePosition) 48
  | [], slots => ([], slots)
  | n :: rest, slots =>
    if slotsHeld slots < budget then grantFrom budget rest (slots.set n.val (some .start)) else (n :: rest, slots)

/-- R134: grants from the ring queue. -/
def Part.grantSlots (p : Part) : Part :=
  let granted := grantFrom p.effectiveBudget p.ring.queue p.ring.slots
  { p with ring := { p.ring with queue := granted.1, slots := granted.2 } }

/-- R133: an alert request. -/
def Part.alertRequest (p : Part) (n : Line) : Part :=
  if p.ring.slots[n].isSome ∨ n ∈ p.ring.queue then p
  else
    let ring := { p.ring with alert := p.ring.alert.set n.val .started }
    if slotsHeld p.ring.slots < p.effectiveBudget then
      { p with ring := { ring with slots := ring.slots.set n.val (some .start) } }
    else { p with ring := { ring with queue := ring.queue ++ [n] } }

/-- R135: an alert cancel; R140, steps 1 to 3, act the same way. -/
def Part.alertCancel (p : Part) (n : Line) : Part :=
  let alert := p.ring.alert.set n.val .stopped
  if p.ring.slots[n].isSome then
    { p with ring := { p.ring with alert := alert, slots := p.ring.slots.set n.val none } }.grantSlots
  else { p with ring := { p.ring with alert := alert, queue := p.ring.queue.filter (· != n) } }

/-! ## The report writer's service of its queue (11.3, 11.4) -/

/-- The state of a buffer is replaced. -/
def Report.setBuffer (r : Report) : BufferId → BufferState → Report
  | .a, st => { r with bufferA := st }
  | .b, st => { r with bufferB := st }

/-- R182: the buffer to take. -/
def Report.bufferToTake (r : Report) : Option BufferId :=
  let tryOrder (x y : BufferId) : Option BufferId :=
    if r.buffer x = .armed then some x else if r.buffer y = .armed then some y else none
  match r.lastClosed with
  | none => tryOrder .a .b
  | some .a => tryOrder .b .a
  | some .b => tryOrder .a .b

/-- R182: a buffer is taken in any event after which the queue is not empty, none is FILLING and one is ARMED. -/
def Part.takeBuffer (p : Part) : Part :=
  if p.report.queue ≠ [] ∧ p.report.filling = none then
    match p.report.bufferToTake with
    | none => p
    | some buf =>
      let gap : Option Record :=
        if p.report.lost = 0 then none
        else some { kind := .gap, subject := .none, detailA := detail1 p.report.lost, detailB := absentWord,
                    stamp := p.clock.ms, snapshot := .notSnapshot }
      let report := { p.report.setBuffer buf .filling with
        recordCount := 0, closePending := none, age := .stopped, lost := 0, gap := gap, job := .takeBuffer }
      { p with report := report }.request .reportWriter (headerOffset buf) (some BufferState.filling.word)
  else p

/-- The own write of word `i` of a record into the FILLING buffer (R183). -/
def Part.writeRecordWord (p : Part) (buf : BufferId) (r : Record) (i : Fin 4) : Part :=
  p.request .reportWriter (recordOffset buf p.report.recordCount i) (some (r.word i))

/-- R183: with nothing being written, the GAP record or else the queue head is begun. -/
def Part.beginRecord (p : Part) : Part :=
  match p.report.filling, p.report.job with
  | some buf, .none =>
    match p.report.gap, p.report.queue with
    | some g, _ => { p with report := { p.report with job := .gapWord 0 } }.writeRecordWord buf g 0
    | none, r :: _ => { p with report := { p.report with job := .headWord 0 } }.writeRecordWord buf r 0
    | none, [] => p
  | _, _ => p

/-- R185: step `i` of closing: the record count to +1, the reason to +2, the clock to +3, FULL to +0. -/
def Part.writeClosing (p : Part) (buf : BufferId) (reason : CloseReason) (clock : Word) (i : Fin 4) : Part :=
  let p := { p with report := { p.report with job := .closing reason clock i } }
  match i with
  | 0 => p.request .reportWriter (headerOffset buf + 1) (some (BitVec.ofNat 16 p.report.recordCount))
  | 1 => p.request .reportWriter (headerOffset buf + 2) (some reason.word)
  | 2 => p.request .reportWriter (headerOffset buf + 3) (some clock)
  | 3 => p.request .reportWriter (headerOffset buf) (some BufferState.full.word)

/-- R185: closing stops the age timer and begins the closing writes. -/
def Part.closeBuffer (p : Part) (buf : BufferId) (reason : CloseReason) : Part :=
  { p with report := { p.report with age := .stopped, closePending := none } }.writeClosing buf reason p.clock.ms 0

/-- R184, R187: an age expiry or a flush acts on the FILLING buffer: pending while the FILLING write or a record is being
written, at once otherwise (between records too), and without effect during the closing writes. -/
def Part.closeOrPend (p : Part) (reason : CloseReason) : Part :=
  match p.report.filling, p.report.job with
  | none, _ => p
  | some buf, .none | some buf, .awaitExpiry => p.closeBuffer buf reason
  | some _, .closing _ _ _ => p
  | some _, _ =>
    match p.report.closePending with
    | none => { p with report := { p.report with closePending := some reason } }
    | some _ => p

/-! ## The end of an event -/

/-- R176: CLEAR-CALLS completes when both sets are empty and no channel is in a call or clearing state. -/
def Part.clearCallsOver (p : Part) : Bool :=
  match p.cmd.long with
  | .clearCalls lines chans => lines.isEmpty && chans.isEmpty && p.chans.toList.all fun c => c.state.quiet
  | _ => false

/-- R176: the completion of CLEAR-CALLS, judged at the end of an event. -/
def Part.judgeClearCalls (p : Part) : Part :=
  if p.clearCallsOver then (p.setLong .none).commandEnded 0x03 p.cmd.longSequence false else p

/-- What ends every event: CLEAR-CALLS is judged, a buffer is taken, a record is begun (R176, R182, R183). -/
def Part.finish (p : Part) : Part := p.judgeClearCalls.takeBuffer.beginRecord

end Sys2Proof.Machine
end

