-- ==== Sys2Proof/Machine/Tones.lean ====
section
/-! DEFINITION. The memory words that translated reads are served from (Table 2-2, R147, R149, R150, R90), and the end of
a tone step. -/

namespace Sys2Proof.Machine

/-- R146: the position as a strobe left it: one whose step has ended stands in the next step from that strobe on, with phase
0. -/
def TonePosition.moved (v : TonePosition) : TonePosition :=
  match v.next with
  | some (step, left) => { v with step := step, left := left, phase := 0, next := none }
  | none => v

/-- R138: the position as a strobe left it: one whose step has ended stands in the next step from that strobe on. -/
def CadencePosition.moved (c : CadencePosition) : CadencePosition :=
  match c.next with
  | some step => ⟨step, 0, none⟩
  | none => c

/-- R147: the word that a line's tone position names. -/
def Part.toneWordOffset (p : Part) (n : Line) : Nat :=
  let position := p.tone.positions[n].moved
  match position.tone with
  | none => silenceOffset
  | some t =>
    let s := p.tone.descriptors[t][position.step]
    if s.length = 0 then silenceOffset else toneStoreOffset (s.start + position.phase % s.length)

/-- The talk slot of a partner (R20). A line in TRUNK-SETUP or TALK has a partner (R22). -/
def partnerTalkOffset : Option Partner → Nat
  | some (.line m) => lineTalkOffset m
  | some (.chan k) => chanTalkOffset k
  | none => silenceOffset

/-- Table 2-2: the word that a listen read of a line is served from. -/
def Part.listenSource (p : Part) (n : Line) : Nat :=
  let l := p.lines[n]
  match l.state with
  | .trunkSetup | .talk => partnerTalkOffset l.partner
  | _ => if (selectedTone l).isSome then p.toneWordOffset n else silenceOffset

/-- R139: the line holds a ring slot and its position's step is ON in the installed cadence. A step that a commit has put at
or beyond the length of the list is judged by the kind stored for it until the next strobe moves the position (the model's
choice, log 27). -/
def Part.ringing (p : Part) (n : Line) : Bool :=
  match p.ring.slots[n] with
  | some position => p.tone.cadence[position.moved.step].on
  | none => false

/-- Table 2-2: the drive pattern of a line. -/
def Part.drivePattern (p : Part) (n : Line) : Fin 5 :=
  let l := p.lines[n]
  match l.state with
  | .outOfService => 4
  | .alerting =>
    if p.ringing n then
      match l.profile.ringPattern with
      | .a => 2
      | .b => 3
    else 0
  | .talk => if l.answeredAsCaller && l.profile.reversal then 1 else 0
  | .lockout => if l.howlerDone then 4 else 0
  | _ => 0

/-- R149: the word that a channel listen read is served from. -/
def Part.chanListenSource (p : Part) (k : Chan) : Nat :=
  let c := p.chans[k]
  match c.state, c.partner with
  | .seizing, some m | .sending, some m | .awaitAnswer, some m | .talk, some m => lineTalkOffset m
  | _, _ => silenceOffset

/-- R90: the code table word that a signal-out read is served from. -/
def Part.signalOutSource (p : Part) (k : Chan) : Nat := codeOffset (codeSent p.chans[k]).toCode

/-- R155: the switch-area word that a read of an offset is served from, with the scaling of the result. -/
def Part.translate (p : Part) (off : Nat) : Nat × LevelCode :=
  if off < 0x040 then (off, .unity)
  else
    match asFin 48 (off - 0x040) with
    | some n => (p.listenSource n, p.lines[n].profile.level)
    | none =>
      if off < 0x0C0 then (off, .unity)
      else
        match asFin 48 (off - 0x0C0) with
        | some n => (patternOffset (p.drivePattern n), .unity)
        | none =>
          if off < 0x110 then (off, .unity)
          else
            match asFin 12 (off - 0x110) with
            | some k => (p.chanListenSource k, .unity)
            | none =>
              if off < 0x130 then (off, .unity)
              else
                match asFin 12 (off - 0x130) with
                | some k => (p.signalOutSource k, .unity)
                | none => (off, .unity)

/-- A strobe ended the step of the line's tone position (R146). -/
def Part.toneStepDue (p : Part) (n : Line) : Bool := p.tone.positions[n].next.isSome

/-- R146: the position moves to the next step, with phase 0 and the frames left that the strobe loaded. -/
def Part.endToneStep (p : Part) (n : Line) : Part := p.setTonePosition n p.tone.positions[n].moved

end Sys2Proof.Machine
end

