-- ==== Sys2Proof/Machine/Port.lean ====
section
/-! DEFINITION. The frame-memory path (09): the memory port and its arbiter, hand-overs of snooped writes, events of the
blocks, and the meanings of the access rows. -/

namespace Sys2Proof.Machine

/-! ## Starting an access -/

/-- R155: the memory address that a read is started on, with its scaling. While RESETN is asserted, and outside the switch
area, it is the address the master gave (R163, R152). An access held across the release of RESETN is started as the others are
then (the model's choice, log 29). -/
def Path.readSource (h : Path) (p : Part) (address : Word) : Word × LevelCode :=
  match h.resetAsserted, offsetOf h.area address with
  | false, some off => (addressOf h.area (p.translate off).1, (p.translate off).2)
  | _, _ => (address, .unity)

/-- R154: the hand-over that a served write makes; none while RESETN is asserted (R163, log 29). -/
def Path.handoverOf (h : Path) (address data : Word) : List Handover :=
  match h.resetAsserted, offsetOf h.area address with
  | false, some off => if (snoopWindow off).isSome then [⟨off, data⟩] else []
  | _, _ => []

/-- The port starts a forwarded access: a snooped write is handed over, and the word of a read is named (R154, R155). WAIT
falls at its start (R164). -/
def Path.startForwarded (h : Path) (p : Part) (access : MasterAccess) : Path :=
  let h := { h with waitKept := false }
  match access with
  | .write address data =>
    { h with inService := some (.write address data), handovers := h.handovers ++ h.handoverOf address data }
  | .read address =>
    { h with inService := some (.read address (h.readSource p address).1 (h.readSource p address).2) }

/-- The port starts an own access (R156). -/
def Path.startOwn (h : Path) (r : OwnRequest) : Path :=
  { h with inService := some (.own (addressOf h.area r.offset) r.data r.who false) }

/-- R158: when the port is free and an access waits, the arbiter starts one. -/
def Path.arbitrate (h : Path) (p : Part) : Path :=
  match h.inService, h.presented, h.ownQueue with
  | none, some access, [] => { h with presented := none, runCounter := 0 }.startForwarded p access
  | none, some access, r :: rest =>
    if h.runCounter < Config.runLimit then
      { h with presented := none, runCounter := h.runCounter + 1 }.startForwarded p access
    else { h with ownQueue := rest, runCounter := 0 }.startOwn r
  | none, none, r :: rest => { h with ownQueue := rest, runCounter := 0 }.startOwn r
  | _, _, _ => h

/-! ## Own requests -/

/-- R157: the requests of one event in the order in which the path takes them. The order of two is a free value
(log 8). -/
def Path.takingOrder (h : Path) (requests : List OwnRequest) : List OwnRequest :=
  if 1 < requests.length ∧ Config.ownRequestsReversed h.orderCount then requests.reverse else requests

/-- R157: the path takes the own requests of an event; one starts at once on a free port. -/
def Path.takeRequests (h : Path) (p : Part) (requests : List OwnRequest) : Path :=
  { h with
    ownQueue := h.ownQueue ++ h.takingOrder requests
    orderCount := if 1 < requests.length then h.orderCount + 1 else h.orderCount }.arbitrate p

/-! ## Events of the blocks -/

/-- An event of the blocks: its act, what ends every event, and the taking of its own requests by the path. While RESETN
is asserted no event is taken (R163). -/
def State.event (s : State) (act : Part → Part) : State :=
  if s.path.resetAsserted then s
  else
    let p := (act s.part).finish
    { s with path := s.path.takeRequests p p.outbox, part := { p with outbox := [] } }

/-- An event that something made due: it is taken when it is due, and otherwise nothing happens (log 1). -/
def State.eventIf (s : State) (due : Part → Bool) (act : Part → Part) : State :=
  if due s.part then s.event act else s

/-! ## Accesses of the masters (log 3) -/

/-- R152, R158: a master presents an access. It starts at once on a free port and otherwise waits, with WAIT. The bus carries
one access at a time: with one held, nothing more is presented (log 18). -/
def State.present (s : State) (access : MasterAccess) : State :=
  if s.path.presented.isSome then s
  else { s with path := { s.path with presented := some access }.arbitrate s.part }

/-- A whole master write on an idle port, without its hand-over. -/
def State.storeWord (s : State) (address data : Word) : State :=
  { s with mem := s.mem.write address.toNat data, path := { s.path with runCounter := 0 } }

/-- R154: a master write. On an idle port it is whole, and its value is handed over if its offset is snooped; on a busy port
it is presented and waits. -/
def State.masterWrite (s : State) (address data : Word) : State :=
  if s.path.idle then
    { s with
      mem := s.mem.write address.toNat data
      path := { s.path with runCounter := 0, handovers := s.path.handovers ++ s.path.handoverOf address data } }
  else s.present (.write address data)

/-- The oldest hand-over of the window an offset lies in (R154). -/
def Path.oldestHandover (h : Path) (off : Nat) : Option Handover :=
  h.handovers.find? fun x => snoopWindow x.offset == snoopWindow off

/-- The write of a word of a snooped window, as its block takes it (R154). The oldest hand-over of the window, when it is this
write, is taken. With no hand-over of the window on an idle port, the write is a whole access, taken at once. Otherwise it is a
master write whose hand-over the block takes later. While RESETN is asserted no block takes it (R163), and its address is that
of the base last sampled (the model's choice, log 28). -/
def State.snooped (s : State) (off : Nat) (data : Word) (act : Part → Part) : State :=
  let address := addressOf s.path.area off
  match s.path.resetAsserted, s.path.oldestHandover off with
  | false, some x =>
    if x = ⟨off, data⟩ then
      { s with path := { s.path with handovers := s.path.handovers.erase x } }.event act
    else s.masterWrite address data
  | false, none => if s.path.idle then (s.storeWord address data).event act else s.masterWrite address data
  | true, _ => s.masterWrite address data

/-- A master read of a switch-area word (R155). On an idle port it is whole; on a busy port it is presented, waits, and is
judged by the state at its service. While RESETN is asserted its address is that of the base last sampled (log 28). -/
def State.readWord (s : State) (off : Nat) : State :=
  let address := addressOf s.path.area off
  if s.path.idle then
    let source := s.path.readSource s.part address
    { s with path := { s.path with
        runCounter := 0, returned := some (address, source.2.scale (s.mem.read source.1.toNat)) } }
  else s.present (.read address)

/-! ## Meanings -/

/-- FORWARDED_ACCESS_PRESENTED (R158, R160). -/
def execForwardedAccessPresented (access : MasterAccess) (s : State) : Host.Outcome State Fault Refusal :=
  .next (s.present access)

/-- The path when the port finishes an own access: its requester is handed the completion (R156), and no block is for an
access that RESETN overtook (R164). -/
def Path.ownDone (h : Path) (who : Requester) (orphan : Bool) (word : Word) : Path :=
  if orphan then h
  else
    match who with
    | .reportWriter => { h with reportDone := true }
    | .commandUnit => { h with echoDone := true }
    | .tableLoader => { h with rescanDone := some word }

/-- The port finishes the access in service: a write reaches memory, a read's word is returned (R152, R155, R156). -/
def State.completeAccess (s : State) (access : Service) : State :=
  let h := { s.path with inService := none }
  match access with
  | .write address data => { s with mem := s.mem.write address.toNat data, path := h.arbitrate s.part }
  | .read address source level =>
    { s with path :=
        { h with returned := some (address, level.scale (s.mem.read source.toNat)) }.arbitrate s.part }
  | .own address (some data) who orphan =>
    { s with mem := s.mem.write address.toNat data, path := (h.ownDone who orphan data).arbitrate s.part }
  | .own address none who orphan =>
    { s with path := (h.ownDone who orphan (s.mem.read address.toNat)).arbitrate s.part }

/-- PORT_ACCESS_COMPLETE (R159). -/
def execPortAccessComplete (s : State) : Host.Outcome State Fault Refusal :=
  .next
    (match s.path.inService with
     | none => s
     | some access => s.completeAccess access)

/-- MASTER_WRITE (R152, R154). -/
def execMasterWrite (address data : Word) (s : State) : Host.Outcome State Fault Refusal :=
  .next (s.masterWrite address data)

/-- LINE_LISTEN_READ (R20, R147, R148). -/
def execLineListenRead (n : Line) (s : State) : Host.Outcome State Fault Refusal :=
  .next (s.readWord (lineListenOffset n))

/-- LINE_DRIVE_READ (R20, R139, R150). -/
def execLineDriveRead (n : Line) (s : State) : Host.Outcome State Fault Refusal :=
  .next (s.readWord (lineDriveOffset n))

/-- CHANNEL_LISTEN_READ (R149). -/
def execChannelListenRead (k : Chan) (s : State) : Host.Outcome State Fault Refusal :=
  .next (s.readWord (chanListenOffset k))

/-- SIGNAL_OUT_READ (R90). -/
def execSignalOutRead (k : Chan) (s : State) : Host.Outcome State Fault Refusal :=
  .next (s.readWord (signalOutOffset k))

/-- TONE_STEP_END (R146). -/
def execToneStepEnd (n : Line) (s : State) : Host.Outcome State Fault Refusal :=
  .next (s.eventIf (·.toneStepDue n) (·.endToneStep n))

end Sys2Proof.Machine
end

