-- ==== Sys2Proof/Machine/Reset.lean ====
section
/-! DEFINITION. RESETN (R163, R164). -/

namespace Sys2Proof.Machine

/-- R164: the completion of an own access that RESETN overtakes is handed to no block. -/
def Service.overtaken : Service → Service
  | .own address data who _ => .own address data who true
  | access => access

/-- R163, R164: the path while RESETN is asserted. The access in service stays, and so does a forwarded access that is
held, with its WAIT. -/
def Path.asserted (h : Path) : Path :=
  { h with
    resetAsserted := true, inService := h.inService.map Service.overtaken, ownQueue := [], runCounter := 0,
    handovers := [], reportDone := false, echoDone := false, rescanDone := none, waitKept := h.wait }

/-- RESET_ASSERTION (R163, R164): every block takes its reset state; memory is not changed. -/
def execResetAssertion (s : State) : Host.Outcome State Fault Refusal :=
  .next { s with path := s.path.asserted, part := Part.reset }

/-- RESET_RELEASE (R153, R164, R180): the straps are sampled, every block takes its reset values and RESTART is generated.
RESETN that is not asserted is not released, and nothing happens. -/
def execResetRelease (area : Fin 4) (s : State) : Host.Outcome State Fault Refusal :=
  .next
    (if s.path.resetAsserted then
      { s with path := { s.path with resetAsserted := false, area := area }, part := Part.released area }
     else s)

end Sys2Proof.Machine
end

