-- ==== Sys2Proof/Machine/Calls.lean ====
section
/-! DEFINITION. The operations that join and part lines and channels: partnerships (R22), teardown (R37), abandonment
(R35), telling a channel to clear (R101), channel free and grant (R68 to R71), preemption (R77 to R79), enqueue and
re-entry (R65, R67), glare return (R32). -/

namespace Sys2Proof.Machine

/-! ## Partnerships -/

/-- R22: the partnership of a line is broken on both records. -/
def Part.breakLine (p : Part) (n : Line) : Part :=
  match p.lines[n].partner with
  | none => p
  | some (.line m) => (p.setPartner n none none).setPartner m none none
  | some (.chan k) => (p.setPartner n none none).setChanPartner k none

/-- R22: the partnership of a channel is broken on both records. -/
def Part.breakChan (p : Part) (k : Chan) : Part :=
  match p.chans[k].partner with
  | none => p
  | some n => (p.setPartner n none none).setChanPartner k none

/-! ## Teardown of a line on its own record (R37) -/

/-- R37: a teardown sets the line's state by its state and debounced loop. A QUEUED line's entry leaves the queue, and an
alert cancel is handed for an ALERTING line. -/
def Part.dropLine (p : Part) (n : Line) (cause : Cause) : Part :=
  let byLoop (p : Part) : Part :=
    match p.sup[n].loop with
    | .closed => p.enterLine n .cleardown (some cause)
    | .opened => p.enterLine n .idle
  match p.lines[n].state with
  | .alerting => (p.alertCancel n).enterLine n .idle
  | .queued => byLoop (p.setWaiter n none)
  | .dialing | .trunkSetup | .localCalling | .talk => byLoop p
  | _ => p

/-- A teardown handed to the partner line of a channel: the partnership is broken and the line dropped. -/
def Part.dropPartner (p : Part) (k : Chan) (cause : Cause) : Part :=
  match p.chans[k].partner with
  | none => p
  | some n => (p.breakChan k).dropLine n cause

/-! ## Channel free and grant -/

/-- The order of the classes: NORMAL, PRIORITY, EMERGENCY (R69). -/
def CallClass.rank : CallClass → Nat
  | .normal => 0
  | .priority => 1
  | .emergency => 2

/-- The line has an entry of a class whose mask includes the channel. -/
def Part.waitsFor (p : Part) (k : Chan) (c : CallClass) (n : Line) : Bool :=
  match p.alloc.waiters[n] with
  | some e => maskHas e.mask k && e.callClass == c
  | none => false

/-- The line has an entry with glare precedence. -/
def Part.hasGlare (p : Part) (n : Line) : Bool :=
  match p.alloc.waiters[n] with
  | some e => e.glare
  | none => false

/-- R64: the rotation from a pointer: the line after the one named first, and the line named last. -/
def rotation : Option Line → List Line
  | none => List.finRange 48
  | some m => (List.finRange 48).filter (m < ·) ++ (List.finRange 48).filter (· ≤ m)

/-- The grant pointer of a class. -/
def GrantPointers.pointer (g : GrantPointers) : CallClass → Option Line
  | .normal => g.normal
  | .priority => g.priority
  | .emergency => g.emergency

/-- R64: the pointer of a class names a line. -/
def GrantPointers.moved (g : GrantPointers) (c : CallClass) (n : Line) : GrantPointers :=
  match c with
  | .normal => { g with normal := some n }
  | .priority => { g with priority := some n }
  | .emergency => { g with emergency := some n }

/-- R69, steps 2 and 3, for one class. -/
def Part.chosenOf (p : Part) (k : Chan) (c : CallClass) : Option Line :=
  match (List.finRange 48).find? fun n => p.waitsFor k c n && p.hasGlare n with
  | some n => some n
  | none => (rotation (p.alloc.pointers[k].pointer c)).find? (p.waitsFor k c)

/-- R69: the waiter chosen for a free channel: the highest class that has one. -/
def Part.chosen (p : Part) (k : Chan) : Option Line :=
  match p.chosenOf k .emergency with
  | some n => some n
  | none =>
    match p.chosenOf k .priority with
    | some n => some n
    | none => p.chosenOf k .normal

/-- The forwarded digits of a line's route. -/
def LineRecord.forwarded (l : LineRecord) : List Dec :=
  match l.route with
  | some r => r.forwarded
  | none => []

/-- R91: the channel is told to seize for a line. -/
def Part.seize (p : Part) (k : Chan) (n : Line) (c : CallClass) : Part :=
  (p.setChan k { p.chans[k] with
      partner := some n, direction := some .out, callClass := some c, sendList := p.lines[n].forwarded,
      sendPosition := 0, sendPhase := .digit }).enterChan k .seizing

/-- R71: channel Ck is granted to the entry of a line. -/
def Part.grant (p : Part) (k : Chan) (n : Line) : Part :=
  match p.alloc.waiters[n] with
  | none => p
  | some e =>
    let pointers := p.alloc.pointers.set k.val (p.alloc.pointers[k].moved e.callClass n)
    let p := { p with alloc := { p.alloc with pointers := pointers } }.setWaiter n none
    ((p.setPartner n (some (.chan k)) (some .caller)).enterLine n .trunkSetup).seize k n e.callClass

/-- R68: channel free. While CLEAR-CALLS runs a channel that enters IDLE stays IDLE (R76, log 23). -/
def Part.channelFree (p : Part) (k : Chan) : Part :=
  if p.clearing then p
  else
    match p.chosen k with
    | none => p
    | some n => p.grant k n

/-! ## Preemption and clearing

`again` is the new preemption attempt that R79 makes for an entry; `Part.attempt` ties the knot. -/

/-- R79 for one line: if its entry is waiting on channel `k`, that is cleared and a new attempt is made. -/
def Part.retry (again : Part → Line → Part) (k : Chan) (p : Part) (n : Line) : Part :=
  match p.alloc.waiters[n] with
  | some e =>
    if e.outstanding = some k then again (p.setWaiter n (some { e with outstanding := none })) n else p
  | none => p

/-- What follows when a channel has entered IDLE, FAULT, BLOCKED-FAR or OFFLINE: channel free (R68), and the entries that
were waiting on it as their victim (R79). -/
def Part.leaveWith (again : Part → Line → Part) (p : Part) (k : Chan) : Part :=
  (List.finRange 48).foldl (Part.retry again k) (if p.chans[k].state = .idle then p.channelFree k else p)

/-- R101: a channel is told to clear. -/
def Part.clearChanWith (again : Part → Line → Part) (p : Part) (k : Chan) : Part :=
  if p.chans[k].state.clearable then
    let p := (p.breakChan k).enterChan k .clearing
    if p.chans[k].accepted = some SignalCode.idle.toCode then (p.enterChan k .idle).leaveWith again k
    else if p.chans[k].accepted = some SignalCode.clear.toCode then p.enterChan k .releasing
    else p
  else p

/-- R77: the victim of an attempt, searched from the tail of the occupancy list. -/
def Part.victim (p : Part) (e : WaitEntry) : Option Chan :=
  p.alloc.occupancy.reverse.find? fun k =>
    maskHas e.mask k && p.chans[k].callClass == some .normal && !p.chans[k].draining && p.chans[k].state.clearable

/-- R77, R78: a preemption attempt for the entry of a line. The first argument bounds how often one event goes on to a new
attempt, and is met in no state (`Part.attempt_eq_preempt`). -/
def Part.attempt : Nat → Part → Line → Part
  | 0, p, _ => p
  | rounds + 1, p, n =>
    match p.alloc.waiters[n] with
    | none => p
    | some e =>
      match p.victim e with
      | none => p
      | some k =>
        let partner := p.chans[k].partner
        let p := p.hand .preempted (.chan k) (detail1 n.val) (lineDetail partner)
        let p := (p.setWaiter n (some { e with outstanding := some k })).clearChanWith (Part.attempt rounds) k
        match partner with
        | none => p
        | some m => p.dropLine m .preempted

/-- A new preemption attempt in an event (R77). -/
def Part.preempt (p : Part) (n : Line) : Part := Part.attempt Config.preemptionRounds p n

/-- What follows when a channel has entered IDLE, FAULT, BLOCKED-FAR or OFFLINE (R68, R79). -/
def Part.leave (p : Part) (k : Chan) : Part := p.leaveWith Part.preempt k

/-- R101: a channel is told to clear. -/
def Part.clearChan (p : Part) (k : Chan) : Part := p.clearChanWith Part.preempt k

/-- A channel enters IDLE, FAULT, BLOCKED-FAR or OFFLINE, with all that follows (R68, R79). -/
def Part.restChan (p : Part) (k : Chan) (st : ChanState) : Part := (p.enterChan k st).leave k

/-! ## Enqueue and re-entry -/

/-- R65, step 4: the lowest-numbered IDLE channel of a mask. -/
def Part.idleChannel (p : Part) (mask : BitVec 16) : Option Chan :=
  (List.finRange 12).find? fun k => maskHas mask k && p.chans[k].state == .idle

/-- R65, step 3: the entry made for a route. -/
def Part.newEntry (p : Part) (r : Route) (glare : Bool) : WaitEntry :=
  { callClass := r.callClass, mask := r.mask, preempt := r.preempt, outstanding := none, glare := glare,
    queueTimer := .started, unusableTimer := if p.maskUsable r.mask then .stopped else .started }

/-- R65, R67: a request is refused, for CLEAR-CALLS or, at an enqueue, for supply. -/
def Part.refusesEntry (p : Part) (r : Route) (glare : Bool) : Bool :=
  p.clearing || (!glare && p.supply.warning && r.callClass == .normal && p.link.state != .up)

/-- R65, steps 5 and 6: demand and a preemption attempt. The allocator acts on the preempt flag for EMERGENCY waiters
(R54). -/
def Part.pursue (p : Part) (n : Line) (e : WaitEntry) : Part :=
  let p := if p.link.state ≠ .up ∧ p.demandRaising e then p.demand else p
  if e.preempt ∧ e.callClass = .emergency then p.preempt n else p

/-- R65 (enqueue) and, with glare precedence, R67 (re-entry): the request of a line in QUEUED. -/
def Part.enqueue (p : Part) (n : Line) (glare : Bool) : Part :=
  match p.lines[n].route with
  | none => p
  | some r =>
    if p.refusesEntry r glare then p.dropLine n .congestion
    else
      let e := p.newEntry r glare
      let p := p.setWaiter n (some e)
      match p.idleChannel e.mask with
      | some k => p.grant k n
      | none => p.pursue n e

/-- R32: a glare return to a line in TRUNK-SETUP whose partnership has been broken. -/
def Part.glareReturn (p : Part) (n : Line) : Part := (p.enterLine n .queued).enqueue n true

/-! ## Teardown and abandonment with a partner -/

/-- R37: a teardown of a line by another block. A channel partner is told to clear (R43); a line partner is torn down in
the same event with the same cause. -/
def Part.tearDown (p : Part) (n : Line) (cause : Cause) : Part :=
  match p.lines[n].partner with
  | some (.line m) => ((p.breakLine n).dropLine n cause).dropLine m cause
  | some (.chan k) => (p.clearChan k).dropLine n cause
  | none => p.dropLine n cause

/-- R35: what abandonment does to others. The line's own next state is set by the caller. -/
def Part.abandon (p : Part) (n : Line) : Part :=
  let l := p.lines[n]
  match l.state, l.partner with
  | .queued, _ => p.setWaiter n none
  | .localCalling, some (.line m) => ((p.breakLine n).alertCancel m).enterLine m .idle
  | .alerting, some (.line m) => ((p.alertCancel n).breakLine n).dropLine m .busy
  | .alerting, some (.chan k) => (p.alertCancel n).clearChan k
  | .trunkSetup, some (.chan k) => p.clearChan k
  | .talk, some (.line m) => (p.breakLine n).dropLine m .busy
  | .talk, some (.chan k) => p.clearChan k
  | _, _ => p

end Sys2Proof.Machine
end

