-- ==== Sys2Proof/Machine/Allocation.lean ====
section
/-! DEFINITION. The entry timers of the channel allocator (R72 to R74). -/

namespace Sys2Proof.Machine

/-- R72: the queue timer of the line's entry reached the queue wait limit. -/
def Part.queueDue (p : Part) (n : Line) : Bool :=
  match p.alloc.waiters[n] with
  | some e => e.queueTimer.due
  | none => false

/-- R73: the unusable timer of the line's entry reached the link wait limit. -/
def Part.unusableDue (p : Part) (n : Line) : Bool :=
  match p.alloc.waiters[n] with
  | some e => e.unusableTimer.due
  | none => false

/-- R74: an expiry, with QUEUE-WAIT, 0, or LINK-WAIT, 1 (Table 11-1). -/
def Part.entryExpired (p : Part) (n : Line) (limit : Nat) : Part :=
  match p.alloc.waiters[n] with
  | some e =>
    ((p.setWaiter n none).hand .queueTimeout (.line n) (detail1 limit) (detail1 e.callClass.item.toNat)).dropLine n
      .congestion
  | none => p

/-- QUEUE_TIMER_EXPIRY (R72, R74). -/
def execQueueTimerExpiry (n : Line) (s : State) : Host.Outcome State Fault Refusal :=
  .next (s.eventIf (·.queueDue n) (·.entryExpired n 0))

/-- UNUSABLE_TIMER_EXPIRY (R73, R74). -/
def execUnusableTimerExpiry (n : Line) (s : State) : Host.Outcome State Fault Refusal :=
  .next (s.eventIf (·.unusableDue n) (·.entryExpired n 1))

end Sys2Proof.Machine
end

