-- ==== Sys2Proof/Machine/Translator.lean ====
section
/-! DEFINITION. The number translator (03): lookup, resolution, completion and the hotline, each a function of the state
that changes nothing; and the checks of a directory commit. -/

namespace Sys2Proof.Machine

/-! ## Lookup (R49 to R52) -/

/-- R49: the entry agrees with the buffer. -/
def DirEntry.agrees (e : DirEntry) (buffer : List Digit) : Bool :=
  e.valid && ((pfxDigits e).isPrefixOf buffer || buffer.isPrefixOf (pfxDigits e))

/-- R49: the entry is fully matched. -/
def DirEntry.fullyMatched (e : DirEntry) (buffer : List Digit) : Bool :=
  e.valid && (pfxDigits e).isPrefixOf buffer

/-- The length of the longest fully matched prefix; none if no entry is fully matched. -/
def Part.longestMatch (p : Part) (buffer : List Digit) : Option Nat :=
  ((p.directory.toList.filter (·.fullyMatched buffer)).map fun e => (pfxDigits e).length).max?

/-- R50: the entry a buffer resolves to: fully matched, with the longest prefix, while no valid entry with a longer prefix
agrees. No two valid entries share a prefix (R46), so there is one at most. -/
def Part.resolution (p : Part) (buffer : List Digit) : Option EntryIx :=
  match p.longestMatch buffer with
  | none => none
  | some len =>
    if p.directory.toList.any fun e => e.agrees buffer && decide (len < (pfxDigits e).length) then none
    else
      (List.finRange 64).find? fun d =>
        p.directory[d].fullyMatched buffer && (pfxDigits p.directory[d]).length == len

/-- R51: the route of a resolved entry. Until completion the effective class is the entry's class. -/
def DirEntry.route (e : DirEntry) (d : EntryIx) : Route :=
  { entry := d, kind := .ofCode e.kind, entryClass := .ofCode e.callClass, callClass := .ofCode e.callClass, mask := e.mask,
    preempt := e.preempt, totalLength := e.totalLength.toNat, strip := e.strip.toNat, forwarded := [], target := none }

/-! ## Completion (R53 to R58) -/

/-- R54: the higher of two classes. -/
def CallClass.max (a b : CallClass) : CallClass :=
  match a, b with
  | .emergency, _ | _, .emergency => .emergency
  | .priority, _ | _, .priority => .priority
  | .normal, .normal => .normal

/-- R57: the digits as a channel sends them; none if one of them is `*` or `#`. -/
def decimals : List Digit → Option (List Dec)
  | [] => some []
  | d :: rest =>
    match Digit.decimal d, decimals rest with
    | some x, some xs => some (x :: xs)
    | _, _ => none

/-- A two-digit station number, the older digit the tens (R56, R98). -/
def stationOf (tens units : Dec) : Nat := 10 * tens.val + units.val

/-- R56: the station number in the last two digits of the buffer, when both are decimal. -/
def stationDigits (buffer : List Digit) : Option Nat :=
  match decimals (buffer.drop (buffer.length - 2)) with
  | some [tens, units] => some (stationOf tens units)
  | _ => none

/-- R57: ROUTE-TRUNK with the forwarded digits, or REFUSE when one of them cannot be sent. `r` is kept as it stood before
completion by a refusal (R53). -/
def trunkVerdict (r : Route) (c : CallClass) (buffer : List Digit) : Route × Verdict :=
  match decimals (buffer.drop r.strip) with
  | some digits => ({ r with callClass := c, forwarded := digits }, .routeTrunk)
  | none => (r, .refuse .unobtainable)

/-- R56: the verdict of a STATION route switched locally. -/
def Part.localVerdict (p : Part) (r : Route) (c : CallClass) (buffer : List Digit) : Route × Verdict :=
  match (stationDigits buffer).bind p.stationLine with
  | some t => ({ r with callClass := c, target := some t }, .routeStationLocal t)
  | none => (r, .refuse .unobtainable)

/-- R53: completion of a route for a line. -/
def Part.complete (p : Part) (n : Line) (r : Route) (buffer : List Digit) : Route × Verdict :=
  let profile := p.lines[n].profile
  let c := r.entryClass.max profile.lineClass
  match r.kind with
  | .deny => (r, .refuse .unobtainable)
  | .station => if p.localSwitching then p.localVerdict r c buffer else trunkVerdict r c buffer
  | .trunk =>
    if !profile.trunkAccess && c != .emergency then (r, .refuse .unobtainable) else trunkVerdict r c buffer

/-- R52: the digits in the buffer against the total length. -/
def Part.judgeRoute (p : Part) (n : Line) (r : Route) (buffer : List Digit) : Route × Verdict :=
  if buffer.length < r.totalLength then (r, .needMore)
  else if buffer.length = r.totalLength then p.complete n r buffer
  else (r, .refuse .unobtainable)

/-- A dialled lookup (Table 3-3): the line's route field after it, and the verdict. -/
def Part.lookup (p : Part) (n : Line) (buffer : List Digit) : Option Route × Verdict :=
  match p.lines[n].route with
  | some r => ((p.judgeRoute n r buffer).map some id)
  | none =>
    match p.resolution buffer with
    | some d => (p.judgeRoute n (p.directory[d].route d) buffer).map some id
    | none =>
      if p.directory.toList.any (·.agrees buffer) then (none, .needMore) else (none, .refuse .unobtainable)

/-- R59: a hotline lookup. The buffer holds the entry's prefix. -/
def Part.hotlineLookup (p : Part) (n : Line) (d : EntryIx) : Option Route × Verdict :=
  let e := p.directory[d]
  if !e.valid || decide (e.pfxLength.toNat < e.totalLength.toNat) then (p.lines[n].route, .refuse .unobtainable)
  else (p.complete n (e.route d) (pfxDigits e)).map some id

/-! ## Directory commits (R45 to R47) -/

/-- R46, check 1. -/
def DirEntry.rangeOk (e : DirEntry) : Bool :=
  within 1 e.pfxLength.toNat 6 && e.pfx.all (· ≤ 11) && within e.pfxLength.toNat e.totalLength.toNat 16 &&
    decide (e.strip.toNat ≤ e.pfxLength.toNat) && e.kind != 3 && e.callClass != 3 &&
    e.mask &&& 0xE001 == 0

/-- R46, check 2. -/
def DirEntry.preemptOk (e : DirEntry) : Bool := !e.preempt || e.callClass == 2

/-- R46, check 3. -/
def DirEntry.stationOk (e : DirEntry) : Bool := e.kind != 1 || e.totalLength.toNat == e.pfxLength.toNat + 2

/-- R46, check 4. -/
def DirEntry.maskOk (e : DirEntry) : Bool := if e.kind = 0 then e.mask == 0 else e.mask != 0

/-- R46, check 5: another valid installed entry has the same prefix. -/
def Part.duplicatePfx (p : Part) (d : EntryIx) (e : DirEntry) : Bool :=
  (List.finRange 64).any fun i => i != d && p.directory[i].valid && p.directory[i].pfx == e.pfx

/-- R46, R47: why a commit of an entry is refused; none if it is accepted. -/
def Part.entryRefusal (p : Part) (d : EntryIx) (e : DirEntry) : Option RefusalReason :=
  if !e.valid then none
  else if !e.rangeOk then some .range
  else if !e.preemptOk then some .preempt
  else if !e.stationOk then some .stationLength
  else if !e.maskOk then some .mask
  else if p.duplicatePfx d e then some .duplicate
  else none

end Sys2Proof.Machine
end

