-- ==== Sys2Proof/Machine/LineControl.lean ====
section
/-! DEFINITION. The line controller (02): origination, verdicts, answers, on-hook, its timers, and the line events of START
and CLEAR-CALLS. -/

namespace Sys2Proof.Machine

/-! ## Verdicts -/

/-- R44: the CALL-ROUTED record of a route. -/
def Part.handCallRouted (p : Part) (n : Line) (r : Route) : Part :=
  p.hand .callRouted (.line n) (detail2 (BitVec.ofNat 8 r.entry.val) r.kind.item)
    (detail2 r.callClass.item (optItem lineItem r.target))

/-- R28: a local call to a target. -/
def Part.routeLocal (p : Part) (n target : Line) : Part :=
  if p.clearing then p.dropLine n .congestion
  else if target ≠ n ∧ p.lines[target].state = .idle then
    let p := (p.setPartner n (some (.line target)) (some .caller)).setPartner target (some (.line n)) (some .called)
    ((p.enterLine n .localCalling).enterLine target .alerting).alertRequest target
  else p.enterLine n .cleardown (some .busy)

/-- R25, R28, R31: the line controller stores the route and acts on the verdict. -/
def Part.actOn (p : Part) (n : Line) (route : Option Route) (v : Verdict) : Part :=
  let p := p.setLine n (p.lines[n].routed route)
  match v, route with
  | .needMore, _ => p.setLine n p.lines[n].waitDigit
  | .refuse c, _ => p.enterLine n .cleardown (some c)
  | .routeStationLocal target, some r => (p.handCallRouted n r).routeLocal n target
  | .routeTrunk, some r => ((p.handCallRouted n r).enterLine n .queued).enqueue n false
  | _, none => p

/-- R27: the hotline is routed. -/
def Part.routeHotline (p : Part) (n : Line) (d : EntryIx) : Part :=
  let p := p.setLine n (p.lines[n].withDigits (pfxDigits p.directory[d]))
  let answer := p.hotlineLookup n d
  p.actOn n answer.1 answer.2

/-! ## Origination and answer -/

/-- R23: an origination. -/
def Part.originate (p : Part) (n : Line) : Part :=
  if p.clearing then p.enterLine n .cleardown (some .congestion)
  else
    let profile := p.lines[n].profile
    let p := p.enterLine n .dialing
    match profile.hotline with
    | some d => if profile.hotlineDelay = 0 then p.routeHotline n d else p
    | none => p

/-- R29: each line's answered-as-caller is set from its role. -/
def Part.markAnswered (p : Part) (n : Line) : Part :=
  p.setLine n (p.lines[n].answered (p.lines[n].role == some .caller))

/-- R29, R34, R141: an ALERTING line answers. The caller's record is handed first (Table 2-8). -/
def Part.answer (p : Part) (n : Line) : Part :=
  match p.lines[n].partner with
  | some (.line m) =>
    ((((p.markAnswered m).markAnswered n).enterLine m .talk).enterLine n .talk).alertCancel n
  | some (.chan k) =>
    let p := ((p.markAnswered n).enterLine n .talk).alertCancel n
    if p.chans[k].state = .ringingIn then p.enterChan k .talk else p
  | none => p

/-! ## Events handed by the line supervisor (R15) -/

/-- The oldest event handed for a line. -/
def Part.handedIs (p : Part) (n : Line) (e : LineEvent) : Bool := p.sup[n].handed.head? == some e

/-- The line controller takes the oldest event handed for a line. -/
def Part.takeHanded (p : Part) (n : Line) : Part :=
  p.setSupervisor n { p.sup[n] with handed := p.sup[n].handed.tail }

/-- OFF-HOOK in RUNNING (R23, R29, R34). -/
def Part.offHook (p : Part) (n : Line) : Part :=
  match p.lines[n].state with
  | .idle => p.originate n
  | .alerting => p.answer n
  | _ => p

/-- ON-HOOK in RUNNING (R36). -/
def Part.onHook (p : Part) (n : Line) : Part :=
  match p.lines[n].state with
  | .idle | .alerting | .outOfService => p
  | _ => (p.abandon n).enterLine n .idle

/-- DIGIT in RUNNING (R24). -/
def Part.dialDigit (p : Part) (n : Line) (d : Digit) : Part :=
  if p.lines[n].state = .dialing then
    let dialled := p.lines[n].dialled d
    let p := (p.setLine n dialled).judgeTone n
    let answer := p.lookup n dialled.digits
    p.actOn n answer.1 answer.2
  else p

/-- MISDIAL in RUNNING (R24, R26). -/
def Part.misdial (p : Part) (n : Line) : Part :=
  if p.lines[n].state = .dialing then p.enterLine n .cleardown (some .unobtainable) else p

/-- R15, R41: an event is taken; in HALTED the line controller does not act on it. -/
def Part.takeEvent (p : Part) (n : Line) (act : Part → Part) : Part :=
  if p.isRunning then act (p.takeHanded n) else p.takeHanded n

/-! ## Timers of a line -/

/-- An expiry of the line's state timer against a limit stands, in the state that started it (R21). -/
def Part.lineTimerDue (p : Part) (n : Line) (st : LineState) (limit : LineLimit → Bool) : Bool :=
  p.lines[n].state == st && p.lines[n].timer.due && limit p.lines[n].limit

def LineLimit.isFirstDigit : LineLimit → Bool
  | .firstDigit => true
  | _ => false

def LineLimit.isInterDigit : LineLimit → Bool
  | .interDigit => true
  | _ => false

def LineLimit.isHotline : LineLimit → Bool
  | .hotlineDelay _ => true
  | _ => false

def Part.firstDigitDue (p : Part) (n : Line) : Bool := p.lineTimerDue n .dialing LineLimit.isFirstDigit
def Part.interDigitDue (p : Part) (n : Line) : Bool := p.lineTimerDue n .dialing LineLimit.isInterDigit
def Part.hotlineDue (p : Part) (n : Line) : Bool := p.lineTimerDue n .dialing LineLimit.isHotline
def Part.cleardownDue (p : Part) (n : Line) : Bool := p.lineTimerDue n .cleardown fun _ => true
def Part.howlerDue (p : Part) (n : Line) : Bool := p.lineTimerDue n .lockout fun _ => true

/-- R26: the first-digit or the inter-digit limit. -/
def Part.dialingExpired (p : Part) (n : Line) : Part := p.enterLine n .cleardown (some .unobtainable)

/-- R26, R27: the hotline delay. -/
def Part.hotlineExpired (p : Part) (n : Line) : Part :=
  match p.lines[n].profile.hotline with
  | some d => p.routeHotline n d
  | none => p.enterLine n .cleardown (some .unobtainable)

/-- R38: the cleardown limit. -/
def Part.cleardownExpired (p : Part) (n : Line) : Part := p.enterLine n .lockout

/-- R38: the howler time. It changes no state and hands no record (R44). -/
def Part.howlerExpired (p : Part) (n : Line) : Part :=
  (p.setLine n p.lines[n].howled).judgeTone n

/-! ## Line events of START and CLEAR-CALLS -/

/-- R42, R173: the line's own event after START stands. -/
def Part.startDue (p : Part) (n : Line) : Bool := p.cmd.starting.contains n

/-- R42: an IDLE line whose debounced loop is CLOSED is taken as having taken OFF-HOOK. -/
def Part.startLine (p : Part) (n : Line) : Part :=
  let p := { p with cmd := { p.cmd with starting := p.cmd.starting.filter (· != n) } }
  if p.isRunning ∧ p.lines[n].state = .idle ∧ p.sup[n].loop = .closed then p.originate n else p

/-- R176: the line is in the set of lines to clear. -/
def Part.lineToClear (p : Part) (n : Line) : Bool :=
  match p.cmd.long with
  | .clearCalls lines _ => lines.contains n
  | _ => false

/-- R176, R43: the line's own event under CLEAR-CALLS. -/
def Part.clearLine (p : Part) (n : Line) : Part :=
  match p.cmd.long with
  | .clearCalls lines chans =>
    let p := p.setLong (.clearCalls (lines.filter (· != n)) chans)
    if p.lines[n].state.hasCall then p.tearDown n .congestion else p
  | _ => p

/-- R176: the channel is in the set of channels to clear. -/
def Part.chanToClear (p : Part) (k : Chan) : Bool :=
  match p.cmd.long with
  | .clearCalls _ chans => chans.contains k
  | _ => false

/-- R176, R101: the channel's own event under CLEAR-CALLS. -/
def Part.clearIncoming (p : Part) (k : Chan) : Part :=
  match p.cmd.long with
  | .clearCalls lines chans => (p.setLong (.clearCalls lines (chans.filter (· != k)))).clearChan k
  | _ => p

/-! ## Meanings -/

/-- OFF_HOOK (R23, R29, R34, R141). -/
def execOffHook (n : Line) (s : State) : Host.Outcome State Fault Refusal :=
  .next (s.eventIf (·.handedIs n .offHook) fun p => p.takeEvent n (·.offHook n))

/-- ON_HOOK (R36). -/
def execOnHook (n : Line) (s : State) : Host.Outcome State Fault Refusal :=
  .next (s.eventIf (·.handedIs n .onHook) fun p => p.takeEvent n (·.onHook n))

/-- DIGIT (R24). -/
def execDigit (n : Line) (d : Digit) (s : State) : Host.Outcome State Fault Refusal :=
  .next (s.eventIf (·.handedIs n (.digit d)) fun p => p.takeEvent n (·.dialDigit n d))

/-- MISDIAL (R24, R26). -/
def execMisdial (n : Line) (s : State) : Host.Outcome State Fault Refusal :=
  .next (s.eventIf (·.handedIs n .misdial) fun p => p.takeEvent n (·.misdial n))

/-- FIRST_DIGIT_LIMIT_EXPIRY (R26). -/
def execFirstDigitLimitExpiry (n : Line) (s : State) : Host.Outcome State Fault Refusal :=
  .next (s.eventIf (·.firstDigitDue n) (·.dialingExpired n))

/-- INTER_DIGIT_LIMIT_EXPIRY (R26). -/
def execInterDigitLimitExpiry (n : Line) (s : State) : Host.Outcome State Fault Refusal :=
  .next (s.eventIf (·.interDigitDue n) (·.dialingExpired n))

/-- HOTLINE_DELAY_EXPIRY (R26, R27). -/
def execHotlineDelayExpiry (n : Line) (s : State) : Host.Outcome State Fault Refusal :=
  .next (s.eventIf (·.hotlineDue n) (·.hotlineExpired n))

/-- CLEARDOWN_LIMIT_EXPIRY (R38). -/
def execCleardownLimitExpiry (n : Line) (s : State) : Host.Outcome State Fault Refusal :=
  .next (s.eventIf (·.cleardownDue n) (·.cleardownExpired n))

/-- HOWLER_TIME_EXPIRY (R38). -/
def execHowlerTimeExpiry (n : Line) (s : State) : Host.Outcome State Fault Refusal :=
  .next (s.eventIf (·.howlerDue n) (·.howlerExpired n))

/-- START_ORIGINATION (R42). -/
def execStartOrigination (n : Line) (s : State) : Host.Outcome State Fault Refusal :=
  .next (s.eventIf (·.startDue n) (·.startLine n))

/-- CLEAR_CALLS_LINE_TEARDOWN (R43, R176). -/
def execClearCallsLineTeardown (n : Line) (s : State) : Host.Outcome State Fault Refusal :=
  .next (s.eventIf (·.lineToClear n) (·.clearLine n))

/-- CLEAR_CALLS_CHANNEL_CLEAR (R101, R176). -/
def execClearCallsChannelClear (k : Chan) (s : State) : Host.Outcome State Fault Refusal :=
  .next (s.eventIf (·.chanToClear k) (·.clearIncoming k))

end Sys2Proof.Machine
end

