-- ==== Sys2Proof/Machine/LinkControl.lean ====
section
/-! DEFINITION. The link controller (06): radio samples, its timers, and what LINK-UP, LINK-DOWN, START, HALT and a change
of policy do to it. -/

namespace Sys2Proof.Machine

/-! ## Radio samples (R116) -/

/-- A ready event stands: a strobe saw RRDY high in STARTING, and the link has not left it since. -/
def Part.readyDue (p : Part) : Bool := p.link.state == .starting && p.link.rrdySample == some true

/-- A ready-lost event stands: a strobe saw RRDY low in UP, and the link has not left it since. -/
def Part.readyLostDue (p : Part) : Bool := p.link.state == .up && p.link.rrdySample == some false

/-- R119. -/
def Part.linkReady (p : Part) : Part := p.enterLink .up none .ready

/-- R122. -/
def Part.linkReadyLost (p : Part) : Part := p.enterLink .holdoff none .readyLost

/-- A wake edge that stands is withdrawn: in HALTED and under policy OFF none acts (R117). -/
def Part.dropWake (p : Part) : Part := { p with link := { p.link with wakeEdge := false } }

/-- A wake edge stands. -/
def Part.wakeDue (p : Part) : Bool := p.link.wakeEdge

/-- R117, R118, R123, R124: a wake edge. -/
def Part.wake (p : Part) : Part :=
  let p := p.dropWake
  if p.isRunning ∧ p.gen.policy ≠ .off then
    match p.link.state with
    | .off => if p.gen.policy = .onDemand then p.enterLink .starting (some .remote) .wake else p
    | .holdoff => { p with link := { p.link with rememberedWake := true } }
    | .starting | .up =>
      if p.gen.policy = .onDemand then { p with link := { p.link with origin := some .remote } }.judgeSilence else p
  else p

/-! ## Timers -/

def Part.startLimitDue (p : Part) : Bool := p.link.state == .starting && p.link.timer.due

/-- R119: the start limit. -/
def Part.startLimitExpired (p : Part) : Part := p.enterLink .holdoff none .startLimit

def Part.holdoffDue (p : Part) : Bool := p.link.state == .holdoff && p.link.timer.due

/-- R123: the retry holdoff, by the policy in force. -/
def Part.holdoffExpired (p : Part) : Part :=
  let wake := p.link.rememberedWake
  match p.gen.policy with
  | .alwaysOn => p.enterLink .starting (some (if wake then .remote else .localSide)) .holdoffEnd
  | .onDemand =>
    if wake then p.enterLink .starting (some .remote) .holdoffEnd
    else if p.link.demandFlag ∨ p.demandOutstanding then p.enterLink .starting (some .localSide) .holdoffEnd
    else p.enterLink .off none .holdoffEnd
  | .off => p.enterLink .off none .holdoffEnd

def Part.silenceDue (p : Part) : Bool := p.link.state == .up && p.link.silence.due

/-- R121: the silence limit. -/
def Part.silenceExpired (p : Part) : Part := p.enterLink .off none .silence

/-! ## Commands, START, HALT and policy -/

/-- R125: an accepted LINK-UP. In HALTED, and under policy OFF, it has no effect (R117). -/
def Part.linkUp (p : Part) : Part :=
  if p.isRunning ∧ p.gen.policy ≠ .off then
    match p.link.state with
    | .off => p.enterLink .starting (some .localSide) .command
    | .starting => p
    | .up => p.restartSilence
    | .holdoff => { p with link := { p.link with demandFlag := true } }
  else p

/-- R125: an accepted LINK-DOWN. -/
def Part.linkDown (p : Part) : Part :=
  match p.link.state with
  | .up | .starting => p.enterLink .holdoff none .command
  | .holdoff => { p with link := { p.link with demandFlag := false } }
  | .off => p

/-- R126: START applies the policy in force. -/
def Part.linkAtStart (p : Part) : Part :=
  if p.gen.policy = .alwaysOn then p.enterLink .starting (some .localSide) .policy else p

/-- R126: HALT puts the link in OFF; link leaves UP is not handed (R122). -/
def Part.linkAtHalt (p : Part) : Part :=
  let q := { p with link := p.link.enter .off none }.dropWake
  if p.link.state = .off then q else q.handLinkState .halt

/-- R126: a change of policy, taken in RUNNING, from the policy `old`. Under policy OFF no wake edge acts (R117). -/
def Part.policyChanged (p : Part) (old : LinkPolicy) : Part :=
  if p.isRunning ∧ p.gen.policy ≠ old then
    match p.gen.policy, p.link.state with
    | .off, .off => p.dropWake
    | .off, _ => p.dropWake.enterLink .off none .policy
    | .onDemand, .off => if p.demandOutstanding then p.enterLink .starting (some .localSide) .policy else p
    | .alwaysOn, .off => p.enterLink .starting (some .localSide) .policy
    | _, .up => p.judgeSilence
    | _, _ => p
  else p

/-! ## Meanings -/

/-- READY (R116, R119). -/
def execReady (s : State) : Host.Outcome State Fault Refusal := .next (s.eventIf (·.readyDue) (·.linkReady))

/-- READY_LOST (R116, R122). -/
def execReadyLost (s : State) : Host.Outcome State Fault Refusal := .next (s.eventIf (·.readyLostDue) (·.linkReadyLost))

/-- WAKE_EDGE (R116, R118, R123, R124). -/
def execWakeEdge (s : State) : Host.Outcome State Fault Refusal := .next (s.eventIf (·.wakeDue) (·.wake))

/-- START_LIMIT_EXPIRY (R119). -/
def execStartLimitExpiry (s : State) : Host.Outcome State Fault Refusal :=
  .next (s.eventIf (·.startLimitDue) (·.startLimitExpired))

/-- RETRY_HOLDOFF_EXPIRY (R123). -/
def execRetryHoldoffExpiry (s : State) : Host.Outcome State Fault Refusal :=
  .next (s.eventIf (·.holdoffDue) (·.holdoffExpired))

/-- SILENCE_EXPIRY (R121). -/
def execSilenceExpiry (s : State) : Host.Outcome State Fault Refusal :=
  .next (s.eventIf (·.silenceDue) (·.silenceExpired))

end Sys2Proof.Machine
end

