-- ==== Sys2Proof/Machine/Signalling.lean ====
section
/-! DEFINITION. The channel signalling unit (05): acceptance of far codes, the effect of each code by state (Table 5-7),
the channel timers, the stall watch and link changes. -/

namespace Sys2Proof.Machine

/-! ## Effects of an accepted far code -/

/-- R107: the PROTOCOL-ERROR record. -/
def Part.protocolError (p : Part) (k : Chan) (x : Code) : Part :=
  p.hand .protocolError (.chan k) (detail1 p.chans[k].state.item.toNat) (detail1 x.val)

/-- The CHANNEL-FAULT record with SEIZE-LIMIT, 0, or RELEASE-GUARD, 1 (Table 11-1). -/
def Part.handChanFault (p : Part) (k : Chan) (reason : Nat) : Part :=
  p.hand .chanFault (.chan k) (detail1 reason) absentWord

/-- The direction and class of an incoming call (R95, R96). -/
def Part.markIncoming (p : Part) (k : Chan) : Part :=
  p.setChan k { p.chans[k] with direction := some .inward, callClass := some .normal, received := [] }

/-- R95, R96: an incoming seizure; it is rejected under CLEAR-CALLS. -/
def Part.seizedByFar (p : Part) (k : Chan) : Part :=
  let p := p.markIncoming k
  if p.clearing then p.enterChan k .rejecting (some .busy) else p.enterChan k .incoming

/-- R95: glare. -/
def Part.glare (p : Part) (k : Chan) : Part :=
  match p.chans[k].partner with
  | some n => ((p.breakChan k).seizedByFar k).glareReturn n
  | none => p.seizedByFar k

/-- Far IDLE (R103, R105, R107). -/
def Part.farIdle (p : Part) (k : Chan) (x : Code) : Part :=
  match p.chans[k].state with
  | .clearing | .releasing | .blockedFar => p.restChan k .idle
  | .sending | .awaitAnswer | .incoming | .ringingIn | .rejecting | .talk =>
    ((p.protocolError k x).dropPartner k .congestion).restChan k .idle
  | .idle | .seizing | .offline | .fault => p

/-- Far SEIZE (R95 to R97, R107). -/
def Part.farSeize (p : Part) (k : Chan) (x : Code) : Part :=
  match p.chans[k].state with
  | .idle => p.seizedByFar k
  | .seizing => p.glare k
  | .incoming => p
  | _ => p.protocolError k x

/-- Far PROCEED (R92, R107). -/
def Part.farProceed (p : Part) (k : Chan) (x : Code) : Part :=
  match p.chans[k].state with
  | .seizing => p.enterChan k (if p.chans[k].sendList.isEmpty then .awaitAnswer else .sending)
  | _ => p.protocolError k x

/-- Far DIGIT-d (R97, R107). -/
def Part.farDigit (p : Part) (k : Chan) (d : Dec) (x : Code) : Part :=
  match p.chans[k].state with
  | .incoming =>
    if p.chans[k].received.length < 4 then p.setChan k { p.chans[k] with received := p.chans[k].received ++ [d] } else p
  | _ => p.protocolError k x

/-- R34, R98: an incoming call for a line. -/
def Part.incomingCall (p : Part) (k : Chan) (n : Line) : Part :=
  if p.lines[n].state = .idle then
    let p := (p.setPartner n (some (.chan k)) (some .called)).setChanPartner k (some n)
    ((p.enterLine n .alerting).alertRequest n).enterChan k .ringingIn
  else p.enterChan k .rejecting (some .busy)

/-- R98: the line that the received digits name. -/
def Part.calledLine (p : Part) (k : Chan) : Option Line :=
  match p.chans[k].received with
  | [tens, units] => p.stationLine (stationOf tens units)
  | _ => none

/-- Far END (R98, R107). -/
def Part.farEnd (p : Part) (k : Chan) (x : Code) : Part :=
  match p.chans[k].state with
  | .incoming =>
    if p.clearing then p.enterChan k .rejecting (some .busy)
    else
      match p.calledLine k with
      | some n => p.incomingCall k n
      | none => p.enterChan k .rejecting (some .vacant)
  | _ => p.protocolError k x

/-- Far RINGING (R93, R107). -/
def Part.farRinging (p : Part) (k : Chan) (x : Code) : Part :=
  match p.chans[k].state with
  | .awaitAnswer => p
  | _ => p.protocolError k x

/-- R33: ANSWER reaches the partner line in TRUNK-SETUP. -/
def Part.answeredByFar (p : Part) (n : Line) : Part :=
  if p.lines[n].state = .trunkSetup then
    (p.setLine n (p.lines[n].answered true)).enterLine n .talk
  else p

/-- Far ANSWER (R33, R93, R107). -/
def Part.farAnswer (p : Part) (k : Chan) (x : Code) : Part :=
  match p.chans[k].state, p.chans[k].partner with
  | .awaitAnswer, some n => (p.enterChan k .talk).answeredByFar n
  | .awaitAnswer, none => p.enterChan k .talk
  | _, _ => p.protocolError k x

/-- Breaks the partnership of a channel, puts the channel in a state and then tears the line down (R93, R102). -/
def Part.endCall (p : Part) (k : Chan) (st : ChanState) (cause : Cause) : Part :=
  match p.chans[k].partner with
  | some n => ((p.breakChan k).enterChan k st).dropLine n cause
  | none => p.enterChan k st

/-- Far BUSY, with cause BUSY, or VACANT, with cause UNOBTAINABLE (R33, R93, R107). -/
def Part.farReject (p : Part) (k : Chan) (cause : Cause) (x : Code) : Part :=
  match p.chans[k].state with
  | .sending | .awaitAnswer => p.endCall k .clearing cause
  | _ => p.protocolError k x

/-- Far CLEAR (R102, R107). -/
def Part.farClear (p : Part) (k : Chan) (x : Code) : Part :=
  match p.chans[k].state with
  | .seizing | .sending | .awaitAnswer | .incoming | .ringingIn | .rejecting | .talk | .clearing =>
    p.endCall k .releasing .busy
  | _ => p.protocolError k x

/-- Far BLOCKED (R105). In BLOCKED-FAR, where the table has a dash, it has no effect (log 10). -/
def Part.farBlocked (p : Part) (k : Chan) : Part :=
  match p.chans[k].state with
  | .offline | .fault | .blockedFar => p
  | _ => (p.dropPartner k .congestion).restChan k .blockedFar

/-- R106: a far code accepted in FAULT starts or stops recovery. -/
def Part.farInFault (p : Part) (k : Chan) (code : SignalCode) : Part :=
  p.setChan k { p.chans[k] with timer := if code = .idle then .started else .stopped }

/-- Table 5-7: the effect of an accepted far code. -/
def Part.accept (p : Part) (k : Chan) (x : Code) : Part :=
  let code := SignalCode.ofCode x
  if p.chans[k].state = .fault then p.farInFault k code
  else
    match code with
    | .idle => p.farIdle k x
    | .seize => p.farSeize k x
    | .proceed => p.farProceed k x
    | .ending => p.farEnd k x
    | .ringing => p.farRinging k x
    | .answer => p.farAnswer k x
    | .clear => p.farClear k x
    | .busy => p.farReject k .busy x
    | .vacant => p.farReject k .unobtainable x
    | .blocked => p.farBlocked k
    | .digit d => p.farDigit k d x

/-! ## Signal-in writes (R87) -/

/-- The installed code that holds a value (R87); no two hold one value (R86). -/
def Part.matchingCode (p : Part) (w : Word) : Option Code :=
  (List.finRange 20).find? fun x => p.codes[x] == some w

/-- The persistence run after a write that matches a code (R87). -/
def ChanRecord.extendRun (c : ChanRecord) (x : Code) : ChanRecord :=
  { c with candidate := some x, run := if c.candidate = some x then min 16 (c.run + 1) else 1 }

/-- R89: a signal-in write restarts the stall timer while the stall watch is on. -/
def ChanRecord.heard (c : ChanRecord) : ChanRecord :=
  { c with stall := if c.config.stallWatch then .started else c.stall }

/-- R87: a signal-in write. -/
def Part.signalIn (p : Part) (k : Chan) (w : Word) : Part :=
  if p.chans[k].state = .offline then p
  else
    match p.matchingCode w with
    | none => p.setChan k { p.chans[k].heard with candidate := none, run := 0 }
    | some x =>
      let c := p.chans[k].heard.extendRun x
      if p.gen.persistence ≤ c.run ∧ c.accepted ≠ some x then (p.setChan k { c with accepted := some x }).accept k x
      else p.setChan k c

/-- R86: a code install. -/
def Part.installCode (p : Part) (x : Code) (w : Word) : Part :=
  if (List.finRange 20).any fun y => y != x && p.codes[y] == some w then p.tableRefused (.code x) .duplicate
  else { p with codes := p.codes.set x.val (some w) }

/-! ## Timers of a channel -/

/-- An expiry of the channel's state timer stands, in one of the states that start it (R85). -/
def Part.chanTimerDue (p : Part) (k : Chan) (states : ChanState → Bool) : Bool :=
  states p.chans[k].state && p.chans[k].timer.due

def Part.seizeLimitDue (p : Part) (k : Chan) : Bool := p.chanTimerDue k (· == .seizing)

def Part.digitHoldDue (p : Part) (k : Chan) : Bool :=
  p.chanTimerDue k (· == .sending) && p.chans[k].sendPhase == .digit

def Part.digitGapDue (p : Part) (k : Chan) : Bool :=
  p.chanTimerDue k (· == .sending) && p.chans[k].sendPhase == .gap

def Part.incomingLimitDue (p : Part) (k : Chan) : Bool := p.chanTimerDue k (· == .incoming)

def Part.releaseGuardDue (p : Part) (k : Chan) : Bool :=
  p.chanTimerDue k fun st => st == .clearing || st == .releasing || st == .rejecting

def Part.recoveryDue (p : Part) (k : Chan) : Bool := p.chanTimerDue k (· == .fault)

def Part.stallDue (p : Part) (k : Chan) : Bool := p.chans[k].state != .offline && p.chans[k].stall.due

/-- R94: the seize limit. -/
def Part.seizeLimitExpired (p : Part) (k : Chan) : Part :=
  let p := p.handChanFault k 0
  match p.chans[k].partner with
  | some n => ((p.breakChan k).restChan k .fault).glareReturn n
  | none => p.restChan k .fault

/-- R92: the digit hold in phase DIGIT. -/
def Part.digitHoldExpired (p : Part) (k : Chan) : Part :=
  p.setChan k { p.chans[k] with sendPhase := .gap, timer := .started }

/-- R92: the digit gap in phase GAP. -/
def Part.digitGapExpired (p : Part) (k : Chan) : Part :=
  let c := p.chans[k]
  if c.sendPosition + 1 < c.sendList.length then
    p.setChan k { c with sendPosition := c.sendPosition + 1, sendPhase := .digit, timer := .started }
  else p.enterChan k .awaitAnswer

/-- R99: the incoming digit limit. -/
def Part.incomingLimitExpired (p : Part) (k : Chan) : Part := p.enterChan k .rejecting (some .vacant)

/-- R104: the release guard. -/
def Part.releaseGuardExpired (p : Part) (k : Chan) : Part := (p.handChanFault k 1).restChan k .fault

/-- R106: the recovery time. -/
def Part.recoveryExpired (p : Part) (k : Chan) : Part := p.restChan k .idle

/-- R89: the accepted far code becomes NONE and the stall timer stops. -/
def ChanRecord.stalled (c : ChanRecord) : ChanRecord :=
  { c with accepted := none, candidate := none, run := 0, stall := .stopped }

/-- R89: stall expiry. In FAULT the channel stays and its state timer stops. -/
def Part.stallExpired (p : Part) (k : Chan) : Part :=
  let p := p.hand .chanStall (.chan k) (detail1 p.chans[k].state.item.toNat) absentWord
  if p.chans[k].state = .fault then p.setChan k { p.chans[k].stalled with timer := .stopped }
  else ((p.setChan k p.chans[k].stalled).dropPartner k .congestion).restChan k .fault

/-! ## Link changes handed to a channel (R109, R110) -/

/-- The oldest link change handed to a channel. -/
def Part.linkChangeIs (p : Part) (k : Chan) (change : LinkChange) : Bool :=
  p.chans[k].linkChanges.head? == some change

/-- R109: link UP, taken by a channel. -/
def Part.channelUp (p : Part) (k : Chan) : Part :=
  let p := p.setLinkChanges k p.chans[k].linkChanges.tail
  if p.chans[k].state = .offline ∧ p.chans[k].config.enabled then p.restChan k .idle else p

/-- R110: link leaves UP, taken by a channel. -/
def Part.channelDown (p : Part) (k : Chan) : Part :=
  let p := p.setLinkChanges k p.chans[k].linkChanges.tail
  match p.chans[k].state, p.chans[k].partner with
  | .offline, _ => p
  | .seizing, some n => ((p.breakChan k).restChan k .offline).glareReturn n
  | _, some n => ((p.breakChan k).restChan k .offline).dropLine n .congestion
  | _, none => p.restChan k .offline

/-! ## CHANNEL-RESET (R111) and HALT (R112) -/

/-- R111: what CHANNEL-RESET drops. A channel told to IDLE has its stall timer started from zero. -/
def ChanRecord.dropped (c : ChanRecord) (toIdle : Bool) : ChanRecord :=
  { c with draining := false, accepted := none, candidate := none, run := 0, timer := .stopped,
           stall := if toIdle ∧ c.config.stallWatch then .started else c.stall }

/-- R111. A channel that stays in IDLE or OFFLINE enters no state; in IDLE it offers itself again (log 14). -/
def Part.resetChan (p : Part) (k : Chan) : Part :=
  let p := p.dropPartner k .congestion
  let toIdle := p.link.state == .up && p.chans[k].config.enabled && p.isRunning
  let p := p.setChan k (p.chans[k].dropped toIdle)
  match toIdle, p.chans[k].state with
  | true, .idle => p.leave k
  | true, _ => p.restChan k .idle
  | false, .offline => p
  | false, _ => p.restChan k .offline

/-- R112: HALT takes a channel to OFFLINE and withdraws the link changes handed to it (log 15). -/
def Part.haltChan (p : Part) (k : Chan) : Part :=
  let p := p.setLinkChanges k []
  if p.chans[k].state = .offline then p else p.enterChan k .offline

/-! ## Meanings -/

/-- SIGNAL_IN_WRITE (R87). -/
def execSignalInWrite (k : Chan) (w : Word) (s : State) : Host.Outcome State Fault Refusal :=
  .next (s.snooped (signalInOffset k) w (·.signalIn k w))

/-- SIGNAL_CODE_INSTALL (R86). -/
def execSignalCodeInstall (x : Code) (w : Word) (s : State) : Host.Outcome State Fault Refusal :=
  .next (s.snooped (codeOffset x) w (·.installCode x w))

/-- SEIZE_LIMIT_EXPIRY (R94). -/
def execSeizeLimitExpiry (k : Chan) (s : State) : Host.Outcome State Fault Refusal :=
  .next (s.eventIf (·.seizeLimitDue k) (·.seizeLimitExpired k))

/-- DIGIT_HOLD_EXPIRY (R92). -/
def execDigitHoldExpiry (k : Chan) (s : State) : Host.Outcome State Fault Refusal :=
  .next (s.eventIf (·.digitHoldDue k) (·.digitHoldExpired k))

/-- DIGIT_GAP_EXPIRY (R92). -/
def execDigitGapExpiry (k : Chan) (s : State) : Host.Outcome State Fault Refusal :=
  .next (s.eventIf (·.digitGapDue k) (·.digitGapExpired k))

/-- INCOMING_DIGIT_LIMIT_EXPIRY (R99). -/
def execIncomingDigitLimitExpiry (k : Chan) (s : State) : Host.Outcome State Fault Refusal :=
  .next (s.eventIf (·.incomingLimitDue k) (·.incomingLimitExpired k))

/-- RELEASE_GUARD_EXPIRY (R104). -/
def execReleaseGuardExpiry (k : Chan) (s : State) : Host.Outcome State Fault Refusal :=
  .next (s.eventIf (·.releaseGuardDue k) (·.releaseGuardExpired k))

/-- RECOVERY_TIME_EXPIRY (R106). -/
def execRecoveryTimeExpiry (k : Chan) (s : State) : Host.Outcome State Fault Refusal :=
  .next (s.eventIf (·.recoveryDue k) (·.recoveryExpired k))

/-- STALL_EXPIRY (R89). -/
def execStallExpiry (k : Chan) (s : State) : Host.Outcome State Fault Refusal :=
  .next (s.eventIf (·.stallDue k) (·.stallExpired k))

/-- CHANNEL_LINK_UP (R109). -/
def execChannelLinkUp (k : Chan) (s : State) : Host.Outcome State Fault Refusal :=
  .next (s.eventIf (·.linkChangeIs k .up) (·.channelUp k))

/-- CHANNEL_LINK_DOWN (R110). -/
def execChannelLinkDown (k : Chan) (s : State) : Host.Outcome State Fault Refusal :=
  .next (s.eventIf (·.linkChangeIs k .down) (·.channelDown k))

end Sys2Proof.Machine
end

