-- ==== Sys2Proof/Machine/Tables.lean ====
section
/-! DEFINITION. The table loader (10): pending copies, the commits of the table records (R166), and the word that RESCAN
replays (R177). -/

namespace Sys2Proof.Machine

/-! ## Pending copies -/

/-- R166: the pending copy of the word at an offset. -/
def Part.copy (p : Part) (off : Nat) : Word := p.copies.read off

/-- R166: a write of a non-commit word replaces its pending copy. -/
def Part.writePending (p : Part) (off : Nat) (w : Word) : Part := { p with copies := p.copies.write off w }

/-! ## Line profiles (R167, R39) -/

/-- R167: some other in-service profile holds the station number. -/
def Part.stationTaken (p : Part) (n : Line) (station : Nat) : Bool :=
  (List.finRange 48).any fun m => m != n && p.lines[m].profile.inService && p.lines[m].profile.station == station

/-- R39: an accepted install of a line's profile. -/
def Part.installProfile (p : Part) (n : Line) (profile : Profile) : Part :=
  let before := p.lines[n].profile.inService
  let p := p.setLine n (p.lines[n].withProfile profile)
  match before, profile.inService with
  | true, false => (if p.isRunning then p.abandon n else p).enterLine n .outOfService
  | false, true =>
    let q := p.enterLine n .idle
    if p.isRunning ∧ p.sup[n].loop = .closed then q.originate n else q
  | _, _ => p

/-- R167: a commit of the profile of a line. -/
def Part.commitProfile (p : Part) (n : Line) (w : Word) : Part :=
  match Profile.ofWords (p.copy (profileOffset n 0)) (p.copy (profileOffset n 1)) (p.copy (profileOffset n 2)) w with
  | .error reason => p.tableRefused (.profile n) reason
  | .ok profile =>
    if profile.inService ∧ p.stationTaken n profile.station then p.tableRefused (.profile n) .duplicate
    else p.installProfile n profile

/-! ## Channel configurations (R168, R108, R89) -/

/-- R89: the stall timer after an install. -/
def ChanRecord.stallAfterInstall (c : ChanRecord) (new : ChanConfig) : Timer :=
  if !new.stallWatch then .stopped
  else if c.config.stallWatch || c.state == .offline then c.stall
  else .started

/-- R108: an accepted install of a channel's configuration, by the old and new enabled fields. -/
def Part.installChanConfig (p : Part) (k : Chan) (config : ChanConfig) : Part :=
  let c := p.chans[k]
  let p := p.setChan k { c with config := config, stall := c.stallAfterInstall config }
  match c.config.enabled, config.enabled with
  | false, true =>
    if c.state = .offline then
      if p.link.state = .up ∧ p.isRunning then p.restChan k .idle else p
    else (p.setChan k { p.chans[k] with draining := false }).judgeUnusable
  | true, false =>
    if c.state = .offline then p
    else if c.state.quiet then p.restChan k .offline
    else (p.setChan k { p.chans[k] with draining := true }).judgeUnusable
  | _, _ => p

/-- R168: a commit of a channel configuration. -/
def Part.commitChanConfig (p : Part) (k : Chan) (w : Word) : Part :=
  match ChanConfig.ofWords (p.copy (chanConfigOffset k 0)) w with
  | .error reason => p.tableRefused (.chanConfig k) reason
  | .ok config => p.installChanConfig k config

/-! ## General configuration (R169) -/

/-- R131, R134: a risen effective budget grants slots. -/
def Part.budgetChanged (p : Part) (before : Nat) : Part := if before < p.effectiveBudget then p.grantSlots else p

/-- R169: an accepted install of the general configuration: the policy by R126, then the ring budget by R131. -/
def Part.installGeneral (p : Part) (g : GenConfig) : Part :=
  ({ p with gen := g }.policyChanged p.gen.policy).budgetChanged p.effectiveBudget

/-- R169: a commit of the general configuration. -/
def Part.commitGeneral (p : Part) (w : Word) : Part :=
  match GenConfig.ofWords (fun i => p.copy (generalOffset i)) w with
  | .error reason => p.tableRefused .general reason
  | .ok g => p.installGeneral g

/-! ## Tone descriptors (R143), ring cadence (R137), directory (R45) -/

/-- R143: a commit of a tone descriptor. -/
def Part.commitTone (p : Part) (t : ToneIx) (w : Word) : Part :=
  match toneOfWords fun i => if i = 7 then w else p.copy (toneOffset t i) with
  | .error reason => p.tableRefused (.tone t) reason
  | .ok steps => { p with tone := { p.tone with descriptors := p.tone.descriptors.set t.val steps } }

/-- R137: a commit of the ring cadence. -/
def Part.commitCadence (p : Part) (w : Word) : Part :=
  match cadenceOfWords fun i => if i = 7 then w else p.copy (cadenceOffset i) with
  | .error reason => p.tableRefused .cadence reason
  | .ok steps => { p with tone := { p.tone with cadence := steps } }

/-- The entry that the pending words of Dn and a commit word form (R45). -/
def Part.entryOfWords (p : Part) (d : EntryIx) (w : Word) : DirEntry :=
  .ofWords (p.copy (entryOffset d 0)) (p.copy (entryOffset d 1)) (p.copy (entryOffset d 2)) w

/-- R45 to R47: a commit of a directory entry. -/
def Part.commitEntry (p : Part) (d : EntryIx) (w : Word) : Part :=
  let e := p.entryOfWords d w
  match p.entryRefusal d e with
  | some reason => p.tableRefused (.entry d) reason
  | none => { p with directory := p.directory.set d.val e }

/-! ## A table word by its offset (R166, R177) -/

/-- A write, or RESCAN's replay, of the table word at an offset: a code is installed, a pending word replaced, a commit word
commits its record. -/
def Part.tableWord (p : Part) (off : Nat) (w : Word) : Part :=
  if isPendingOffset off then p.writePending off w
  else if off < 0x600 then
    match asFin 20 (off - 0x150) with
    | some x => p.installCode x w
    | none => p
  else if off < 0x6C0 then
    match asFin 48 ((off - 0x600) / 4) with
    | some n => p.commitProfile n w
    | none => p
  else if off < 0x6E0 then
    match asFin 12 ((off - 0x6C0) / 2) with
    | some k => p.commitChanConfig k w
    | none => p
  else if off < 0x700 then p.commitGeneral w
  else if off < 0x740 then
    match asFin 8 ((off - 0x700) / 8) with
    | some t => p.commitTone t w
    | none => p
  else if off < 0x748 then p.commitCadence w
  else
    match asFin 64 ((off - 0x800) / 4) with
    | some d => p.commitEntry d w
    | none => p

/-! ## Meanings -/

/-- PENDING_WORD_WRITE (R166). The row names a pending word only (WellFormed.lean); any other offset is no such word and
the command does nothing. -/
def execPendingWordWrite (off : Offset) (w : Word) (s : State) : Host.Outcome State Fault Refusal :=
  .next (if isPendingOffset off.toNat then s.snooped off.toNat w (·.writePending off.toNat w) else s)

/-- DIRECTORY_COMMIT (R45 to R47). -/
def execDirectoryCommit (d : EntryIx) (w : Word) (s : State) : Host.Outcome State Fault Refusal :=
  .next (s.snooped (entryOffset d 3) w (·.commitEntry d w))

/-- PROFILE_COMMIT (R39, R167). -/
def execProfileCommit (n : Line) (w : Word) (s : State) : Host.Outcome State Fault Refusal :=
  .next (s.snooped (profileOffset n 3) w (·.commitProfile n w))

/-- CHANNEL_CONFIG_COMMIT (R89, R108, R168). -/
def execChannelConfigCommit (k : Chan) (w : Word) (s : State) : Host.Outcome State Fault Refusal :=
  .next (s.snooped (chanConfigOffset k 1) w (·.commitChanConfig k w))

/-- GENERAL_CONFIG_COMMIT (R169). -/
def execGeneralConfigCommit (w : Word) (s : State) : Host.Outcome State Fault Refusal :=
  .next (s.snooped (generalOffset 31) w (·.commitGeneral w))

/-- TONE_DESCRIPTOR_COMMIT (R143). -/
def execToneDescriptorCommit (t : ToneIx) (w : Word) (s : State) : Host.Outcome State Fault Refusal :=
  .next (s.snooped (toneOffset t 7) w (·.commitTone t w))

/-- RING_CADENCE_COMMIT (R137). -/
def execRingCadenceCommit (w : Word) (s : State) : Host.Outcome State Fault Refusal :=
  .next (s.snooped (cadenceOffset 7) w (·.commitCadence w))

end Sys2Proof.Machine
end

