-- ==== Sys2Proof/Machine/Commands.lean ====
section
/-! DEFINITION. The command unit (10.6, 10.7): judging a command, the short and long commands, echoes, RESCAN reads and
snapshot records. -/

namespace Sys2Proof.Machine

/-! ## Judging a command (R171) -/

/-- The command codes of Table 10-5. -/
inductive Command where
  | start
  | halt
  | clearCalls
  | rescan
  | snapshot
  | linkUp
  | linkDown
  | lineReset
  | channelReset
  | reportFlush
deriving DecidableEq, Repr

/-- Table 10-5: the code of a command. -/
def Command.code : Command → BitVec 8
  | .start => 0x01
  | .halt => 0x02
  | .clearCalls => 0x03
  | .rescan => 0x04
  | .snapshot => 0x05
  | .linkUp => 0x06
  | .linkDown => 0x07
  | .lineReset => 0x08
  | .channelReset => 0x09
  | .reportFlush => 0x0A

/-- A long command is in progress. -/
def Part.longInProgress (p : Part) : Bool :=
  match p.cmd.long with
  | .none => false
  | _ => true

/-- Table 10-5: the mode, or for LINK-UP the policy, allows the command. HALT is accepted also while a long command runs,
in either mode (log 9). -/
def Part.modeAllows (p : Part) : Command → Bool
  | .start => !p.isRunning
  | .halt => p.isRunning || p.longInProgress
  | .clearCalls | .lineReset => p.isRunning
  | .linkUp => p.gen.policy != .off
  | _ => true

/-- R171, check 4: the operand names a line or a channel. -/
def operandOk (c : Command) (operand : BitVec 8) : Bool :=
  match c with
  | .lineReset => decide (operand.toNat ≤ 47)
  | .channelReset => decide (1 ≤ operand.toNat) && decide (operand.toNat ≤ 12)
  | _ => true

/-- R171, checks 2 to 4: why a command is refused; none if it is accepted. -/
def Part.commandRefusal (p : Part) (c : Command) (operand : BitVec 8) : Option CommandResult :=
  if p.longInProgress ∧ c ≠ .halt then some .refusedBusy
  else if !p.modeAllows c then some .refusedMode
  else if !operandOk c operand then some .refusedOperand
  else none

/-- R171: a code other than 00H raises the sequence count by 1, wrapping from 15 to 0. -/
def Part.raiseSequence (p : Part) : Part := { p with cmd := { p.cmd with sequence := p.cmd.sequence + 1 } }

/-- The reasons of COMMAND-REFUSED, numbered as Table 11-1 lists them. -/
def refusalItem : CommandResult → Nat
  | .refusedMode => 1
  | .refusedOperand => 2
  | _ => 0

/-- R172: a refused command: COMMAND-REFUSED and the echo. -/
def Part.refuseCommand (p : Part) (code : BitVec 8) (reason : CommandResult) : Part :=
  (p.hand .commandRefused .none (detail2 code (p.cmd.sequence.setWidth 8)) (detail1 (refusalItem reason))).requestEcho
    (echoWord code reason p.cmd.sequence)

/-- R171: a command event. `effect` is that of the accepted command. -/
def Part.command (p : Part) (c : Command) (operand : BitVec 8) (effect : Part → Part) : Part :=
  let p := p.raiseSequence
  match p.commandRefusal c operand with
  | some reason => p.refuseCommand c.code reason
  | none => effect p

/-- R172: a short command ends with DONE in its own event, after its effect. -/
def Part.short (p : Part) (c : Command) (effect : Part → Part) : Part :=
  (effect p).commandEnded c.code p.cmd.sequence false

/-- R172: a long command accepted and still in progress: the echo ACCEPTED, no record. -/
def Part.accepted (p : Part) (c : Command) : Part :=
  p.requestEcho (echoWord c.code .accepted p.cmd.sequence)

/-! ## START and HALT -/

/-- R173: START. Each line then takes its own event (R42): those in IDLE, whose loop is read at that event (log 16). -/
def Part.start (p : Part) : Part :=
  { p with cmd := { p.cmd with
      mode := .running
      starting := (List.finRange 48).filter fun n : Line => p.lines[n].state == LineState.idle } }.linkAtStart

/-! ## SNAPSHOT (R178) -/

/-- The SNAPSHOT-LINE record of a line (Table 11-1). -/
def Part.handSnapshotLine (p : Part) (n : Line) : Part :=
  p.hand .snapshotLine (.line n) (detail3 p.lines[n].state.item p.sup[n].loop.item4 p.sup[n].phase.item4)
    (partnerDetail p.lines[n].partner) .subject

/-- The SNAPSHOT-CHANNEL record of a channel (Table 11-1). -/
def Part.handSnapshotChannel (p : Part) (k : Chan) : Part :=
  let c := p.chans[k]
  p.hand .snapshotChannel (.chan k)
    (detail3 c.state.item (optItem4 Direction.item4 c.direction) (optItem4 CallClass.item4 c.callClass))
    (detail2 (optItem lineItem c.partner) (optItem (fun x : Code => BitVec.ofNat 8 x.val) c.accepted)) .subject

/-- The SNAPSHOT-END record, with COMPLETE, 0, or ABORTED, 1. -/
def Part.handSnapshotEnd (p : Part) (aborted : Bool) : Part :=
  p.hand .snapshotEnd .none (detail1 (if aborted then 1 else 0)) absentWord (if aborted then .aborted else .complete)

/-- R178: the next snapshot record is generated and handed; the last completes the command. -/
def Part.snapshotNext (p : Part) (next : Nat) : Part :=
  match asFin 48 next, asFin 12 (next - 48) with
  | some n, _ => (p.handSnapshotLine n).setLong (.snapshot (next + 1))
  | none, some k => (p.handSnapshotChannel k).setLong (.snapshot (next + 1))
  | none, none => ((p.handSnapshotEnd false).setLong .none).commandEnded 0x05 p.cmd.longSequence false

/-- The event that takes a disposal stands. -/
def Part.disposalDue (p : Part) : Bool := !p.cmd.disposals.isEmpty

/-- R178: SNAPSHOT, if one is in progress, hands its next record. -/
def Part.continueSnapshot (p : Part) : Part :=
  match p.cmd.long with
  | .snapshot next => p.snapshotNext next
  | _ => p

/-- R178: a disposal is taken. One of an aborted SNAPSHOT has no effect, but the last of them lets a SNAPSHOT accepted
meanwhile hand its first record. That of SNAPSHOT-END with COMPLETE has none: its command has completed. -/
def Part.takeDisposal (p : Part) : Part :=
  match p.cmd.disposals with
  | [] => p
  | (tag, _) :: rest =>
    let p := { p with cmd := { p.cmd with disposals := rest } }
    if tag = .complete then p
    else if p.cmd.awaitingAborted = 0 then p.continueSnapshot
    else
      let p := { p with cmd := { p.cmd with awaitingAborted := p.cmd.awaitingAborted - 1 } }
      if p.cmd.awaitingAborted = 0 then p.continueSnapshot else p

/-- A long command begins, under the sequence count of its event. -/
def Part.beginLong (p : Part) (c : LongCommand) : Part :=
  { p with cmd := { p.cmd with long := c, longSequence := p.cmd.sequence } }

/-- R178: an accepted SNAPSHOT. -/
def Part.snapshot (p : Part) : Part :=
  let p := p.beginLong (.snapshot 0)
  (if p.cmd.awaitingAborted = 0 then p.continueSnapshot else p).accepted .snapshot

/-- R178: how many records of the SNAPSHOT in progress await their disposal: the latest, once one has been handed. -/
def awaitingOf (next : Nat) : Nat := if next = 0 then 0 else 1

/-! ## RESCAN (R177) -/

/-- The first offset that RESCAN reads. -/
def rescanFirst : Nat := 0x150

/-- R177: the offset read after another; none after 8FFH. -/
def rescanAfter (off : Nat) : Option Nat :=
  if off = 0x163 then some 0x600
  else if off = 0x6D7 then some 0x6E0
  else if off = 0x747 then some 0x800
  else if off = 0x8FF then none
  else some (off + 1)

/-- R177: the table loader requests the read of an offset. -/
def Part.requestRead (p : Part) (off : Nat) : Part :=
  { p with cmd := { p.cmd with long := .rescan off, rescanOutstanding := some off, rescanStale := false } }.request
    .tableLoader off none

/-- R177: RESCAN goes on after the read of an offset has been acted on, or completes. -/
def Part.continueRescan (p : Part) (off : Nat) : Part :=
  match rescanAfter off with
  | some next => p.requestRead next
  | none =>
    { p with cmd := { p.cmd with long := .none, rescanOutstanding := none } }.commandEnded 0x04 p.cmd.longSequence false

/-- R177: the completion of a RESCAN read is taken. The word is acted on as it was read, whatever a master has written over it
since (the model's choice, log 30). That of an aborted RESCAN is discarded, and a RESCAN accepted meanwhile requests its first
read. -/
def Part.takeRead (p : Part) (w : Word) : Part :=
  match p.cmd.rescanOutstanding with
  | none => p
  | some off =>
    if p.cmd.rescanStale then
      match p.cmd.long with
      | .rescan next => p.requestRead next
      | _ => { p with cmd := { p.cmd with rescanOutstanding := none, rescanStale := false } }
    else (p.tableWord off w).continueRescan off

/-- R177: an accepted RESCAN. -/
def Part.rescan (p : Part) : Part :=
  let p := p.beginLong (.rescan rescanFirst)
  (if p.cmd.rescanOutstanding.isNone then p.requestRead rescanFirst else p).accepted .rescan

/-! ## CLEAR-CALLS (R176) -/

/-- R176: the two sets as they stand at acceptance. -/
def Part.clearSets (p : Part) : LongCommand :=
  .clearCalls ((List.finRange 48).filter fun n : Line => p.lines[n].state.hasCall)
    ((List.finRange 12).filter fun k : Chan => p.chans[k].state == ChanState.incoming)

/-- R176: an accepted CLEAR-CALLS. If its condition already holds it completes in this event, without ACCEPTED; the end of
the event judges that. -/
def Part.clearCalls (p : Part) : Part :=
  let p := p.beginLong p.clearSets
  if p.clearCallsOver then p else p.accepted .clearCalls

/-! ## HALT (R174) -/

/-- R174, step 1: a long command in progress is ended with ABORTED, under its own sequence count. -/
def Part.abortLong (p : Part) : Part :=
  match p.cmd.long with
  | .none => p
  | .clearCalls _ _ => (p.setLong .none).commandEnded 0x03 p.cmd.longSequence true
  | .rescan _ =>
    { p with cmd := { p.cmd with long := .none, rescanStale := p.cmd.rescanOutstanding.isSome } }.commandEnded 0x04
      p.cmd.longSequence true
  | .snapshot next =>
    let p := { p with cmd := { p.cmd with
      long := .none, awaitingAborted := p.cmd.awaitingAborted + awaitingOf next + 1 } }
    (p.handSnapshotEnd true).commandEnded 0x05 p.cmd.longSequence true

/-- R41: HALT acts on a line: in service, it goes to IDLE. -/
def Part.haltLine (p : Part) (n : Line) : Part :=
  if p.lines[n].state = .outOfService ∨ p.lines[n].state = .idle then p else p.enterLine n .idle

/-- R76: HALT empties the wait queue; the pointers are kept. -/
def Part.emptyQueue (p : Part) : Part :=
  { p with alloc := { p.alloc with waiters := Vector.replicate 48 none, occupancy := [] } }

/-- R132: HALT empties the ring scheduler. -/
def Part.emptyRing (p : Part) : Part := { p with ring := Ring.reset }

/-- R174, steps 1 to 3: the effect of HALT. -/
def Part.halt (p : Part) : Part :=
  let p := p.abortLong
  let p := { p with cmd := { p.cmd with mode := .halted, starting := [] } }.emptyQueue.linkAtHalt
  let p := (List.finRange 12).foldl Part.haltChan p
  ((List.finRange 48).foldl Part.haltLine p).emptyQueue.emptyRing

/-! ## The short commands of R175 -/

/-- R40: LINE-RESET of a line. -/
def Part.resetLine (p : Part) (n : Line) : Part :=
  if p.lines[n].state = .outOfService then p
  else
    let p := p.abandon n
    match p.sup[n].loop with
    | .opened => p.enterLine n .idle
    | .closed => p.enterLine n .lockout none true

/-- LINE-RESET by its operand, which has passed R171's check. -/
def Part.lineReset (p : Part) (operand : BitVec 8) : Part :=
  match asFin 48 operand.toNat with
  | some n => p.resetLine n
  | none => p

/-- CHANNEL-RESET by its operand, which has passed R171's check. -/
def Part.channelReset (p : Part) (operand : BitVec 8) : Part :=
  match asFin 12 (operand.toNat - 1) with
  | some k => p.resetChan k
  | none => p

/-! ## Echo -/

/-- R172: the completion of the echo write is taken: a held value is requested. -/
def Part.echoCompleted (p : Part) : Part :=
  let p := { p with cmd := { p.cmd with echoOutstanding := false } }
  match p.cmd.echoHeld with
  | some w => { p with cmd := { p.cmd with echoHeld := none } }.requestEcho w
  | none => p

/-! ## Meanings -/

/-- A command event: the write of the command word (R171). -/
def State.commandEvent (s : State) (c : Command) (operand : BitVec 8) (effect : Part → Part) : State :=
  s.snooped commandOffset (commandWord c.code operand) fun p => p.command c operand effect

/-- START (R173). -/
def execStart (operand : BitVec 8) (s : State) : Host.Outcome State Fault Refusal :=
  .next (s.commandEvent .start operand fun p => p.short .start Part.start)

/-- HALT (R174). -/
def execHalt (operand : BitVec 8) (s : State) : Host.Outcome State Fault Refusal :=
  .next (s.commandEvent .halt operand fun p => p.short .halt Part.halt)

/-- CLEAR_CALLS (R176). -/
def execClearCalls (operand : BitVec 8) (s : State) : Host.Outcome State Fault Refusal :=
  .next (s.commandEvent .clearCalls operand Part.clearCalls)

/-- RESCAN (R177). -/
def execRescan (operand : BitVec 8) (s : State) : Host.Outcome State Fault Refusal :=
  .next (s.commandEvent .rescan operand Part.rescan)

/-- SNAPSHOT (R178). -/
def execSnapshot (operand : BitVec 8) (s : State) : Host.Outcome State Fault Refusal :=
  .next (s.commandEvent .snapshot operand Part.snapshot)

/-- LINK_UP (R125, R175). -/
def execLinkUp (operand : BitVec 8) (s : State) : Host.Outcome State Fault Refusal :=
  .next (s.commandEvent .linkUp operand fun p => p.short .linkUp Part.linkUp)

/-- LINK_DOWN (R125, R175). -/
def execLinkDown (operand : BitVec 8) (s : State) : Host.Outcome State Fault Refusal :=
  .next (s.commandEvent .linkDown operand fun p => p.short .linkDown Part.linkDown)

/-- LINE_RESET (R40, R175). -/
def execLineReset (operand : BitVec 8) (s : State) : Host.Outcome State Fault Refusal :=
  .next (s.commandEvent .lineReset operand fun p => p.short .lineReset (·.lineReset operand))

/-- CHANNEL_RESET (R111, R175). -/
def execChannelReset (operand : BitVec 8) (s : State) : Host.Outcome State Fault Refusal :=
  .next (s.commandEvent .channelReset operand fun p => p.short .channelReset (·.channelReset operand))

/-- REPORT_FLUSH (R175, R184). -/
def execReportFlush (operand : BitVec 8) (s : State) : Host.Outcome State Fault Refusal :=
  .next (s.commandEvent .reportFlush operand fun p => p.short .reportFlush (·.closeOrPend .flush))

/-- R171: the command event of a code that Table 10-5 does not list. Code 00H is no command. -/
def Part.undefinedCommand (p : Part) (code : BitVec 8) : Part :=
  if code = 0 then p else p.raiseSequence.refuseCommand code .refusedOperand

/-- COMMAND_UNDEFINED (R171). The row is a code that Table 10-5 does not list (WellFormed.lean); a listed code is another
row and the command does nothing. -/
def execCommandUndefined (w : Word) (s : State) : Host.Outcome State Fault Refusal :=
  .next (if isCommandCode (commandCode w) then s
         else s.snooped commandOffset w (·.undefinedCommand (commandCode w)))

/-- ECHO_WRITE_COMPLETE (R172). -/
def execEchoWriteComplete (s : State) : Host.Outcome State Fault Refusal :=
  .next (if s.path.echoDone then
      { s with path := { s.path with echoDone := false } }.event Part.echoCompleted else s)

/-- RESCAN_READ_COMPLETE (R177). -/
def execRescanReadComplete (s : State) : Host.Outcome State Fault Refusal :=
  .next
    (match s.path.rescanDone with
     | some w => { s with path := { s.path with rescanDone := none } }.event (·.takeRead w)
     | none => s)

/-- SNAPSHOT_DISPOSAL (R178). -/
def execSnapshotDisposal (s : State) : Host.Outcome State Fault Refusal :=
  .next (s.eventIf (·.disposalDue) (·.takeDisposal))

end Sys2Proof.Machine
end

