-- ==== Sys2Proof/Machine/Reports.lean ====
section
/-! DEFINITION. The report writer (11): header writes, completions of its own writes, the age timer. What it does at the
end of every event is in Ops.lean. -/

namespace Sys2Proof.Machine

/-- Table 11-2: a processor write of ARMED, 1, or DISARMED, 0, to a buffer's state word. -/
def BufferState.written (st : BufferState) (w : Word) : BufferState :=
  match st with
  | .disarmed => if w = BufferState.armed.word then .armed else .disarmed
  | .armed => if w = BufferState.disarmed.word then .disarmed else .armed
  | .filling => .filling
  | .full => if w = BufferState.armed.word then .armed else if w = BufferState.disarmed.word then .disarmed else .full

/-- The write takes a FULL buffer to ARMED (Table 11-2). -/
def Report.armsFull (r : Report) (buffer : BufferId) (w : Word) : Bool :=
  r.buffer buffer == .full && (r.buffer buffer).written w == .armed

/-- R181: a header state write. Where `completed` says that the FULL write of the other buffer has completed and its completion
has not been taken, an arm of a FULL buffer leaves ATTN asserted (R187, log 31). -/
def Part.headerWrite (p : Part) (buffer : BufferId) (w : Word) (completed : Bool) : Part :=
  { p with report := { p.report.setBuffer buffer ((p.report.buffer buffer).written w) with
      attnHeld := p.report.attnHeld || (completed && p.report.armsFull buffer w) } }

/-- The completion of the FULL write stands and has not been taken. -/
def State.fullCompleted (s : State) : Bool := s.path.reportDone && s.part.report.fullWriting

/-- R184: the reason for closing when the last word of a record of a group completes, with the record counted. -/
def Part.closingReason (p : Part) (kind : RecordKind) : Option CloseReason :=
  match p.report.closePending with
  | some reason => some reason
  | none =>
    if p.report.recordCount = Config.bufferRecords then some .count
    else if p.gen.urgentMask.getLsbD kind.group then some .urgent
    else none

/-- R187: with no close, an age expiry that met the completion comes between records: a record that waits is not begun before
it (log 32). -/
def Part.meetExpiry (p : Part) : Part :=
  if p.report.age.due ∧ p.report.queue ≠ [] then { p with report := { p.report with job := .awaitExpiry } } else p

/-- R183: the fourth word of a record has completed: the count, the age timer of a first record, the closing
conditions. -/
def Part.recordWritten (p : Part) (buffer : BufferId) (kind : RecordKind) : Part :=
  let report := p.report
  let p := { p with report := { report with
      recordCount := report.recordCount + 1
      job := .none
      age := if report.recordCount = 0 then .started else report.age } }
  match p.closingReason kind with
  | some reason => p.closeBuffer buffer reason
  | none => p.meetExpiry

/-- R183: the queue head has been written and leaves the queue; a snapshot record's disposal is handed. -/
def Part.dropHead (p : Part) (r : Record) : Part :=
  { p with
    report := { p.report with queue := p.report.queue.tail }
    cmd := { p.cmd with
      disposals := if r.snapshot = .notSnapshot then p.cmd.disposals else p.cmd.disposals ++ [(r.snapshot, .written)] } }

/-- R185: the FULL write has completed. -/
def Part.bufferFull (p : Part) (buffer : BufferId) : Part :=
  { p with report := { p.report.setBuffer buffer .full with
      lastClosed := some buffer, job := .none, attnHeld := false } }

/-- The completion of the report writer's own write is taken (R183, R185). -/
def Part.wordWritten (p : Part) : Part :=
  match p.report.filling, p.report.job with
  | some _, .takeBuffer => { p with report := { p.report with job := .none } }
  | some buffer, .gapWord i =>
    match p.report.gap with
    | some g =>
      if i = 3 then { p with report := { p.report with gap := none } }.recordWritten buffer g.kind
      else { p with report := { p.report with job := .gapWord (i + 1) } }.writeRecordWord buffer g (i + 1)
    | none => p
  | some buffer, .headWord i =>
    match p.report.queue with
    | r :: _ =>
      if i = 3 then (p.dropHead r).recordWritten buffer r.kind
      else { p with report := { p.report with job := .headWord (i + 1) } }.writeRecordWord buffer r (i + 1)
    | [] => p
  | some buffer, .closing reason clock i =>
    if i = 3 then p.bufferFull buffer else p.writeClosing buffer reason clock (i + 1)
  | _, _ => p

/-- The age timer reached the report age limit. -/
def Part.ageDue (p : Part) : Bool := p.report.age.due

/-- R184: the age expiry. -/
def Part.ageExpired (p : Part) : Part := { p with report := { p.report with age := .stopped } }.closeOrPend .age

/-! ## Meanings -/

/-- HEADER_STATE_WRITE (R181). -/
def execHeaderStateWrite (buffer : BufferId) (w : Word) (s : State) : Host.Outcome State Fault Refusal :=
  .next (s.snooped (headerOffset buffer) w (·.headerWrite buffer w s.fullCompleted))

/-- REPORT_WORD_WRITE_COMPLETE (R183, R185). -/
def execReportWordWriteComplete (s : State) : Host.Outcome State Fault Refusal :=
  .next (if s.path.reportDone then
      { s with path := { s.path with reportDone := false } }.event Part.wordWritten else s)

/-- AGE_TIMER_EXPIRY (R184). -/
def execAgeTimerExpiry (s : State) : Host.Outcome State Fault Refusal := .next (s.eventIf (·.ageDue) (·.ageExpired))

end Sys2Proof.Machine
end

