-- ==== Sys2Proof/Machine/Ringing.lean ====
section
/-! DEFINITION. The supply monitor and the ring scheduler (07): the acceptance of SUPW, the alert limit, the end of a cadence
step. -/

namespace Sys2Proof.Machine

/-- R129: the hold count has reached 800. -/
def Part.supplyDue (p : Part) : Bool := decide (Config.supplyHold ≤ p.supply.hold)

/-- R81: the allocator takes a change of the supply warning: when it clears with the link not UP and an entry in the queue,
demand is handed. -/
def Part.supplyToAllocator (p : Part) : Part :=
  if ¬ p.supply.warning ∧ p.link.state ≠ .up ∧ p.alloc.waiters.toList.any Option.isSome then p.demand else p

/-- R130: an acceptance: the record, the ring scheduler, the allocator. -/
def Part.acceptSupply (p : Part) : Part :=
  let before := p.effectiveBudget
  let p := { p with supply := ⟨!p.supply.warning, 0⟩ }
  let p := p.hand .supply .none (detail1 (if p.supply.warning then 1 else 0)) (detail1 p.effectiveBudget)
  (if before < p.effectiveBudget then p.grantSlots else p).supplyToAllocator

/-- R140: the alert limit timer reached its limit. -/
def Part.alertDue (p : Part) (n : Line) : Bool := p.ring.alert[n].due

/-- R30: the alert limit, taken by a line in ALERTING: the callee first, then the caller or the channel (log 13). -/
def Part.endAlerting (p : Part) (n : Line) : Part :=
  match p.lines[n].state, p.lines[n].partner with
  | .alerting, some (.line m) => ((p.breakLine n).enterLine n .idle).dropLine m .busy
  | .alerting, some (.chan k) => ((p.breakLine n).enterLine n .idle).clearChan k
  | .alerting, none => p.enterLine n .idle
  | _, _ => p

/-- R140: the alert limit expiry. -/
def Part.alertExpired (p : Part) (n : Line) : Part := (p.alertCancel n).endAlerting n

/-- R138: a strobe ended the step of the line's cadence position. -/
def Part.cadenceDue (p : Part) (n : Line) : Bool :=
  match p.ring.slots[n] with
  | some position => position.next.isSome
  | none => false

/-- R138: the position moves to the next step. -/
def Part.endCadenceStep (p : Part) (n : Line) : Part :=
  { p with ring := { p.ring with slots := p.ring.slots.set n.val (p.ring.slots[n].map CadencePosition.moved) } }

/-! ## Meanings -/

/-- SUPPLY_ACCEPTANCE (R129, R130). -/
def execSupplyAcceptance (s : State) : Host.Outcome State Fault Refusal :=
  .next (s.eventIf (·.supplyDue) (·.acceptSupply))

/-- ALERT_LIMIT_EXPIRY (R30, R140). -/
def execAlertLimitExpiry (n : Line) (s : State) : Host.Outcome State Fault Refusal :=
  .next (s.eventIf (·.alertDue n) (·.alertExpired n))

/-- CADENCE_STEP_END (R138). -/
def execCadenceStepEnd (n : Line) (s : State) : Host.Outcome State Fault Refusal :=
  .next (s.eventIf (·.cadenceDue n) (·.endCadenceStep n))

end Sys2Proof.Machine
end

