-- ==== Sys2Proof/Machine/Supervisor.lean ====
section
/-! DEFINITION. The line supervisor (01): debounce, supervision phases, pulse digits and tone digits. -/

namespace Sys2Proof.Machine

/-- R15: events are handed to the line controller in order. -/
def Supervisor.give (v : Supervisor) (events : List LineEvent) : Supervisor := { v with handed := v.handed ++ events }

/-- Table 1-6: the event that a completed pulse count makes. -/
def pulseEvents (count : Nat) : List LineEvent :=
  if count = 0 then []
  else if count < 10 then [.digit (Fin.ofNat 12 count)]
  else if count = 10 then [.digit 0]
  else [.misdial]

/-- R10: a pulse digit is completed for a line in `st`. -/
def Supervisor.complete (v : Supervisor) (st : LineState) : Supervisor :=
  { v with pulses := 0 }.give (if st == LineState.dialing then pulseEvents v.pulses else [])

/-- R4, R7 (Table 1-5): an accepted closure, with the duration timer as it stood and break max in frames. -/
def Supervisor.closure (v : Supervisor) (breakMax : Nat) (st : LineState) : Supervisor :=
  let made := { v with phase := .making, timer := .started }
  match v.phase with
  | .resting => { made with pulses := 0 }.give [.offHook]
  | .breaking =>
    match st with
    | .dialing =>
      if v.timer.count ≤ breakMax then { made with pulses := min 11 (v.pulses + 1) }
      else { made with pulses := 0 }.give [.misdial]
    | .idle => { made with pulses := 0 }.give [.offHook]
    | _ => { made with pulses := 0 }
  | .making | .steady => made

/-- R5: an accepted opening. -/
def Supervisor.opening (v : Supervisor) : Supervisor :=
  match v.phase with
  | .making | .steady => { v with phase := .breaking, timer := .started }
  | .resting | .breaking => { v with timer := .started }

/-- R2: the loop field of a sense write. -/
def Supervisor.debounce (v : Supervisor) (loop : Loop) (debounceCount breakMax : Nat) (st : LineState) : Supervisor :=
  if loop = v.loop then { v with candidate := none, run := 0 }
  else
    let run := if v.candidate = some loop then v.run + 1 else 1
    if debounceCount ≤ run then
      let accepted := { v with loop := loop, candidate := none, run := 0 }
      match loop with
      | .closed => accepted.closure breakMax st
      | .opened => accepted.opening
    else { v with candidate := some loop, run := run }

/-- R13: the phases in which a tone digit is taken. -/
def Phase.hearsTone : Phase → Bool
  | .making | .steady => true
  | _ => false

/-- R12 to R14: the digit fields of a sense write, after the loop field. -/
def Supervisor.toneField (v : Supervisor) (present : Bool) (code : Nat) (st : LineState) : Supervisor :=
  let seen := { v with lastPresent := present }
  if present && !v.lastPresent && v.phase.hearsTone && st == .dialing then
    match asFin 12 code with
    | some d => (seen.complete st).give [.digit d]
    | none => seen
  else seen

/-- R1: a sense write. -/
def Part.senseWrite (p : Part) (n : Line) (w : Word) : Part :=
  let field := SenseWord.ofWord w
  let st := p.lines[n].state
  p.setSupervisor n
    ((p.sup[n].debounce field.loop p.gen.debounceCount (Config.framesPerMs * p.gen.breakMax) st).toneField
      field.present field.code st)

/-- The duration timer reached on-hook min in BREAK. -/
def Part.onHookMinDue (p : Part) (n : Line) : Bool := p.sup[n].phase == .breaking && p.sup[n].timer.due

/-- R6. -/
def Part.onHookMin (p : Part) (n : Line) : Part :=
  p.setSupervisor n ({ p.sup[n] with phase := .resting, timer := .stopped, pulses := 0 }.give [.onHook])

/-- The duration timer reached inter-digit pause in MAKE. -/
def Part.pauseDue (p : Part) (n : Line) : Bool := p.sup[n].phase == .making && p.sup[n].timer.due

/-- R9, R10. -/
def Part.interDigitPause (p : Part) (n : Line) : Part :=
  p.setSupervisor n ({ p.sup[n] with phase := .steady, timer := .stopped }.complete p.lines[n].state)

/-! ## Meanings -/

/-- SENSE_WRITE (R1). -/
def execSenseWrite (n : Line) (w : Word) (s : State) : Host.Outcome State Fault Refusal :=
  .next (s.snooped (senseOffset n) w (·.senseWrite n w))

/-- ON_HOOK_MIN_EXPIRY (R6). -/
def execOnHookMinExpiry (n : Line) (s : State) : Host.Outcome State Fault Refusal :=
  .next (s.eventIf (·.onHookMinDue n) (·.onHookMin n))

/-- INTER_DIGIT_PAUSE_EXPIRY (R9). -/
def execInterDigitPauseExpiry (n : Line) (s : State) : Host.Outcome State Fault Refusal :=
  .next (s.eventIf (·.pauseDue n) (·.interDigitPause n))

end Sys2Proof.Machine
end

