-- ==== Sys2Proof/Machine/Strobe.lean ====
section
/-! DEFINITION. The frame strobe (R161): what every block that owns a timer, a position or a sampled input does at it, and
the events that the strobe before it made due. -/

namespace Sys2Proof.Machine

/-! ## Advance of each block -/

/-- Frames in a limit given in milliseconds. -/
def ms (v : Nat) : Option Nat := some (Config.framesPerMs * v)

/-- Frames in a limit given in seconds. -/
def seconds (v : Nat) : Option Nat := some (Config.framesPerSecond * v)

/-- R6, R9, R18: the duration timer against the limit of its phase. -/
def Supervisor.tick (v : Supervisor) (g : GenConfig) : Supervisor :=
  let limit : Option Nat :=
    match v.phase with
    | .breaking => ms g.onHookMin
    | .making => ms g.interDigitPause
    | _ => none
  { v with timer := v.timer.tick limit }

/-- R21: a line limit in frames, as in force. -/
def LineLimit.frames (l : LineLimit) (g : GenConfig) : Option Nat :=
  match l with
  | .firstDigit => seconds g.firstDigitLimit
  | .interDigit => seconds g.interDigitLimit
  | .hotlineDelay s => seconds s
  | .cleardown => seconds g.cleardownLimit
  | .howler => seconds g.howlerTime

/-- R21. -/
def LineRecord.tick (l : LineRecord) (g : GenConfig) : LineRecord := { l with timer := l.timer.tick (l.limit.frames g) }

/-- R72, R73. A queue wait limit of 0 does not expire. -/
def WaitEntry.tick (e : WaitEntry) (g : GenConfig) : WaitEntry :=
  { e with
    queueTimer := e.queueTimer.tick (if g.queueWaitLimit = 0 then none else seconds g.queueWaitLimit)
    unusableTimer := e.unusableTimer.tick (seconds g.linkWaitLimit) }

/-- R85: the limit of a channel's state timer, in frames, as in force. -/
def ChanRecord.limit (c : ChanRecord) (g : GenConfig) : Option Nat :=
  match c.state with
  | .seizing => ms g.seizeLimit
  | .sending =>
    match c.sendPhase with
    | .digit => ms g.digitHold
    | .gap => ms g.digitGap
  | .incoming => seconds g.incomingDigitLimit
  | .rejecting | .clearing | .releasing => seconds g.releaseGuard
  | .fault => ms g.recoveryTime
  | _ => none

/-- R85, R89. -/
def ChanRecord.tick (c : ChanRecord) (g : GenConfig) : ChanRecord :=
  { c with timer := c.timer.tick (c.limit g), stall := c.stall.tick (ms c.config.stallLimit) }

/-- The limit of the link's state timer, in frames, as in force (Table 6-3). -/
def Link.limit (l : Link) (g : GenConfig) : Option Nat :=
  match l.state with
  | .starting => seconds g.startLimit
  | .holdoff => seconds g.retryHoldoff
  | _ => none

/-- R116: the RRDY sample where it makes an event: high in STARTING and low in UP. Elsewhere it has no effect. -/
def LinkState.sample (st : LinkState) (rrdy : Bool) : Option Bool :=
  match st, rrdy with
  | .starting, true => some true
  | .up, false => some false
  | _, _ => none

/-- R116, R117, R121: the link controller's timers and samples. `heeds` says that a wake edge can act: RUNNING, under a policy
other than OFF. -/
def Link.tick (l : Link) (g : GenConfig) (heeds rrdy rwake : Bool) : Link :=
  { l with
    timer := l.timer.tick (l.limit g)
    silence := l.silence.tick (seconds g.silenceLimit)
    lastWake := rwake
    rrdySample := l.state.sample rrdy
    wakeEdge := rwake && !l.lastWake && heeds }

/-- R129: the sample of SUPW. -/
def Supply.tick (v : Supply) (supw : Bool) : Supply :=
  { v with hold := if supw = v.warning then 0 else min Config.supplyHold (v.hold + 1) }

/-- R138: the frames a position's step lasts in the installed cadence. A step at or beyond the length of the list has a
duration of 0, whatever is stored for it (R137). -/
def cadenceFrames (steps : Vector CadenceStep 4) (step : Fin 4) : Nat :=
  if step.val < cadenceLength steps then Config.framesPerMs * steps[step].duration else 0

/-- R138: a cadence position; a step whose count reaches its duration names the step that comes next. -/
def CadencePosition.tick (c : CadencePosition) (steps : Vector CadenceStep 4) : CadencePosition :=
  let count := c.count + 1
  if cadenceFrames steps c.step ≤ count then
    { c with
      count := count
      next := some (if h : c.step.val + 1 < 4 then
          (if c.step.val + 1 < cadenceLength steps then ⟨c.step.val + 1, h⟩ else 0)
        else 0) }
  else { c with count := count }

/-- R146, R151: a tone position. A count that reaches 0 ends the step, and names the step that comes next with the frames left
of the descriptor installed at this strobe; otherwise the phase rises. -/
def TonePosition.tick (v : TonePosition) (descriptors : Vector (Vector ToneStep 4) 8) : TonePosition :=
  match v.tone with
  | none => v
  | some t =>
    let len := descriptors[t][v.step].length
    let phase := if len = 0 then 0 else (v.phase + 1) % len
    match v.left with
    | .held => { v with phase := phase }
    | .count 0 => v
    | .count 1 =>
      { v with left := .count 0, next := some (v.step + 1, framesOf descriptors[t][v.step + 1].duration) }
    | .count (f + 2) => { v with left := .count (f + 1), phase := phase }

/-- R162: the frame counter and the report clock. -/
def Clock.tick (c : Clock) : Clock := if c.frame + 1 = Config.framesPerMs then ⟨0, c.ms + 1⟩ else ⟨c.frame + 1, c.ms⟩

/-- R161: every block takes the strobe. -/
def Part.strobe (p : Part) (rrdy rwake supw : Bool) : Part :=
  { p with
    sup := Vector.ofFn fun n => p.sup[n].tick p.gen
    lines := Vector.ofFn fun n => p.lines[n].tick p.gen
    alloc := { p.alloc with waiters := Vector.ofFn fun n => p.alloc.waiters[n].map (·.tick p.gen) }
    chans := Vector.ofFn fun k => p.chans[k].tick p.gen
    link := p.link.tick p.gen (p.isRunning && p.gen.policy != .off) rrdy rwake
    supply := p.supply.tick supw
    ring := { p.ring with
      slots := Vector.ofFn fun n => p.ring.slots[n].map (·.tick p.tone.cadence)
      alert := Vector.ofFn fun n => p.ring.alert[n].tick (seconds p.gen.alertLimit) }
    tone := { p.tone with positions := Vector.ofFn fun n => p.tone.positions[n].tick p.tone.descriptors }
    report := { p.report with age := p.report.age.tick (ms p.gen.ageLimit) }
    clock := p.clock.tick }

/-! ## Events that a strobe makes due -/

/-- The events that a strobe can make due, each with its row of the table. -/
inductive StrobeEvent where
  | onHookMin (n : Line)
  | interDigitPause (n : Line)
  | firstDigit (n : Line)
  | interDigit (n : Line)
  | hotline (n : Line)
  | cleardown (n : Line)
  | howler (n : Line)
  | queueTimer (n : Line)
  | unusableTimer (n : Line)
  | seizeLimit (k : Chan)
  | digitHold (k : Chan)
  | digitGap (k : Chan)
  | incomingLimit (k : Chan)
  | releaseGuard (k : Chan)
  | recovery (k : Chan)
  | stall (k : Chan)
  | ready
  | readyLost
  | startLimit
  | holdoff
  | silence
  | wake
  | supply
  | alertLimit (n : Line)
  | cadence (n : Line)
  | tone (n : Line)
  | age
deriving DecidableEq, Repr

/-- The event is due. -/
def StrobeEvent.due : StrobeEvent → Part → Bool
  | .onHookMin n, p => p.onHookMinDue n
  | .interDigitPause n, p => p.pauseDue n
  | .firstDigit n, p => p.firstDigitDue n
  | .interDigit n, p => p.interDigitDue n
  | .hotline n, p => p.hotlineDue n
  | .cleardown n, p => p.cleardownDue n
  | .howler n, p => p.howlerDue n
  | .queueTimer n, p => p.queueDue n
  | .unusableTimer n, p => p.unusableDue n
  | .seizeLimit k, p => p.seizeLimitDue k
  | .digitHold k, p => p.digitHoldDue k
  | .digitGap k, p => p.digitGapDue k
  | .incomingLimit k, p => p.incomingLimitDue k
  | .releaseGuard k, p => p.releaseGuardDue k
  | .recovery k, p => p.recoveryDue k
  | .stall k, p => p.stallDue k
  | .ready, p => p.readyDue
  | .readyLost, p => p.readyLostDue
  | .startLimit, p => p.startLimitDue
  | .holdoff, p => p.holdoffDue
  | .silence, p => p.silenceDue
  | .wake, p => p.wakeDue
  | .supply, p => p.supplyDue
  | .alertLimit n, p => p.alertDue n
  | .cadence n, p => p.cadenceDue n
  | .tone n, p => p.toneStepDue n
  | .age, p => p.ageDue

/-- What the event does. -/
def StrobeEvent.act : StrobeEvent → Part → Part
  | .onHookMin n, p => p.onHookMin n
  | .interDigitPause n, p => p.interDigitPause n
  | .firstDigit n, p => p.dialingExpired n
  | .interDigit n, p => p.dialingExpired n
  | .hotline n, p => p.hotlineExpired n
  | .cleardown n, p => p.cleardownExpired n
  | .howler n, p => p.howlerExpired n
  | .queueTimer n, p => p.entryExpired n 0
  | .unusableTimer n, p => p.entryExpired n 1
  | .seizeLimit k, p => p.seizeLimitExpired k
  | .digitHold k, p => p.digitHoldExpired k
  | .digitGap k, p => p.digitGapExpired k
  | .incomingLimit k, p => p.incomingLimitExpired k
  | .releaseGuard k, p => p.releaseGuardExpired k
  | .recovery k, p => p.recoveryExpired k
  | .stall k, p => p.stallExpired k
  | .ready, p => p.linkReady
  | .readyLost, p => p.linkReadyLost
  | .startLimit, p => p.startLimitExpired
  | .holdoff, p => p.holdoffExpired
  | .silence, p => p.silenceExpired
  | .wake, p => p.wake
  | .supply, p => p.acceptSupply
  | .alertLimit n, p => p.alertExpired n
  | .cadence n, p => p.endCadenceStep n
  | .tone n, p => p.endToneStep n
  | .age, p => p.ageExpired

/-- The strobe events of one line. -/
def lineStrobeEvents (n : Line) : List StrobeEvent :=
  [.onHookMin n, .interDigitPause n, .firstDigit n, .interDigit n, .hotline n, .cleardown n, .howler n, .queueTimer n,
   .unusableTimer n, .alertLimit n, .cadence n, .tone n]

/-- The strobe events of one channel. -/
def chanStrobeEvents (k : Chan) : List StrobeEvent :=
  [.seizeLimit k, .digitHold k, .digitGap k, .incomingLimit k, .releaseGuard k, .recovery k, .stall k]

/-- Every strobe event, in the fixed order in which those left behind are taken (log 2). -/
def strobeEvents : List StrobeEvent :=
  (List.finRange 48).flatMap lineStrobeEvents ++ (List.finRange 12).flatMap chanStrobeEvents ++
    [.ready, .readyLost, .startLimit, .holdoff, .silence, .wake, .supply, .age]

/-- The events that the strobe before made due, and that the sender left behind, are taken (log 2). -/
def State.settle (s : State) : State :=
  if strobeEvents.any (·.due s.part) then strobeEvents.foldl (fun s e => s.eventIf e.due e.act) s else s

/-- FRAME_STROBE (R161). A strobe while RESETN is asserted is ignored. -/
def execFrameStrobe (rrdy rwake supw : Bool) (s : State) : Host.Outcome State Fault Refusal :=
  .next
    (if s.path.resetAsserted then s
     else
       let t := s.settle
       { t with part := t.part.strobe rrdy rwake supw })

end Sys2Proof.Machine
end

