-- ==== Sys2Proof/Machine/Dispatch.lean ====
section
/-! DEFINITION. The effect of each command on everything but the queue: one arm per row of spec/opcode_table.json. -/

namespace Sys2Proof.Machine

def exec (i : Instr) (s : State) : Host.Outcome State Fault Refusal :=
  match i with
  | .resetAssertion => Sys2Proof.Machine.execResetAssertion s
  | .resetRelease area => Sys2Proof.Machine.execResetRelease area s
  | .frameStrobe rrdy rwake supw => Sys2Proof.Machine.execFrameStrobe rrdy rwake supw s
  | .forwardedAccessPresented access => Sys2Proof.Machine.execForwardedAccessPresented access s
  | .portAccessComplete => Sys2Proof.Machine.execPortAccessComplete s
  | .masterWrite address data => Sys2Proof.Machine.execMasterWrite address data s
  | .senseWrite n w => Sys2Proof.Machine.execSenseWrite n w s
  | .onHookMinExpiry n => Sys2Proof.Machine.execOnHookMinExpiry n s
  | .interDigitPauseExpiry n => Sys2Proof.Machine.execInterDigitPauseExpiry n s
  | .offHook n => Sys2Proof.Machine.execOffHook n s
  | .onHook n => Sys2Proof.Machine.execOnHook n s
  | .digit n d => Sys2Proof.Machine.execDigit n d s
  | .misdial n => Sys2Proof.Machine.execMisdial n s
  | .firstDigitLimitExpiry n => Sys2Proof.Machine.execFirstDigitLimitExpiry n s
  | .interDigitLimitExpiry n => Sys2Proof.Machine.execInterDigitLimitExpiry n s
  | .hotlineDelayExpiry n => Sys2Proof.Machine.execHotlineDelayExpiry n s
  | .cleardownLimitExpiry n => Sys2Proof.Machine.execCleardownLimitExpiry n s
  | .howlerTimeExpiry n => Sys2Proof.Machine.execHowlerTimeExpiry n s
  | .startOrigination n => Sys2Proof.Machine.execStartOrigination n s
  | .clearCallsLineTeardown n => Sys2Proof.Machine.execClearCallsLineTeardown n s
  | .clearCallsChannelClear k => Sys2Proof.Machine.execClearCallsChannelClear k s
  | .queueTimerExpiry n => Sys2Proof.Machine.execQueueTimerExpiry n s
  | .unusableTimerExpiry n => Sys2Proof.Machine.execUnusableTimerExpiry n s
  | .signalInWrite k w => Sys2Proof.Machine.execSignalInWrite k w s
  | .seizeLimitExpiry k => Sys2Proof.Machine.execSeizeLimitExpiry k s
  | .digitHoldExpiry k => Sys2Proof.Machine.execDigitHoldExpiry k s
  | .digitGapExpiry k => Sys2Proof.Machine.execDigitGapExpiry k s
  | .incomingDigitLimitExpiry k => Sys2Proof.Machine.execIncomingDigitLimitExpiry k s
  | .releaseGuardExpiry k => Sys2Proof.Machine.execReleaseGuardExpiry k s
  | .recoveryTimeExpiry k => Sys2Proof.Machine.execRecoveryTimeExpiry k s
  | .stallExpiry k => Sys2Proof.Machine.execStallExpiry k s
  | .channelLinkUp k => Sys2Proof.Machine.execChannelLinkUp k s
  | .channelLinkDown k => Sys2Proof.Machine.execChannelLinkDown k s
  | .signalOutRead k => Sys2Proof.Machine.execSignalOutRead k s
  | .channelListenRead k => Sys2Proof.Machine.execChannelListenRead k s
  | .lineListenRead n => Sys2Proof.Machine.execLineListenRead n s
  | .lineDriveRead n => Sys2Proof.Machine.execLineDriveRead n s
  | .signalCodeInstall x w => Sys2Proof.Machine.execSignalCodeInstall x w s
  | .pendingWordWrite offset w => Sys2Proof.Machine.execPendingWordWrite offset w s
  | .directoryCommit d w => Sys2Proof.Machine.execDirectoryCommit d w s
  | .profileCommit n w => Sys2Proof.Machine.execProfileCommit n w s
  | .channelConfigCommit k w => Sys2Proof.Machine.execChannelConfigCommit k w s
  | .generalConfigCommit w => Sys2Proof.Machine.execGeneralConfigCommit w s
  | .toneDescriptorCommit t w => Sys2Proof.Machine.execToneDescriptorCommit t w s
  | .ringCadenceCommit w => Sys2Proof.Machine.execRingCadenceCommit w s
  | .start operand => Sys2Proof.Machine.execStart operand s
  | .halt operand => Sys2Proof.Machine.execHalt operand s
  | .clearCalls operand => Sys2Proof.Machine.execClearCalls operand s
  | .rescan operand => Sys2Proof.Machine.execRescan operand s
  | .snapshot operand => Sys2Proof.Machine.execSnapshot operand s
  | .linkUp operand => Sys2Proof.Machine.execLinkUp operand s
  | .linkDown operand => Sys2Proof.Machine.execLinkDown operand s
  | .lineReset operand => Sys2Proof.Machine.execLineReset operand s
  | .channelReset operand => Sys2Proof.Machine.execChannelReset operand s
  | .reportFlush operand => Sys2Proof.Machine.execReportFlush operand s
  | .commandUndefined w => Sys2Proof.Machine.execCommandUndefined w s
  | .echoWriteComplete => Sys2Proof.Machine.execEchoWriteComplete s
  | .rescanReadComplete => Sys2Proof.Machine.execRescanReadComplete s
  | .snapshotDisposal => Sys2Proof.Machine.execSnapshotDisposal s
  | .ready => Sys2Proof.Machine.execReady s
  | .readyLost => Sys2Proof.Machine.execReadyLost s
  | .wakeEdge => Sys2Proof.Machine.execWakeEdge s
  | .startLimitExpiry => Sys2Proof.Machine.execStartLimitExpiry s
  | .retryHoldoffExpiry => Sys2Proof.Machine.execRetryHoldoffExpiry s
  | .silenceExpiry => Sys2Proof.Machine.execSilenceExpiry s
  | .supplyAcceptance => Sys2Proof.Machine.execSupplyAcceptance s
  | .alertLimitExpiry n => Sys2Proof.Machine.execAlertLimitExpiry n s
  | .cadenceStepEnd n => Sys2Proof.Machine.execCadenceStepEnd n s
  | .toneStepEnd n => Sys2Proof.Machine.execToneStepEnd n s
  | .headerStateWrite buffer w => Sys2Proof.Machine.execHeaderStateWrite buffer w s
  | .reportWordWriteComplete => Sys2Proof.Machine.execReportWordWriteComplete s
  | .ageTimerExpiry => Sys2Proof.Machine.execAgeTimerExpiry s

end Sys2Proof.Machine
end

