-- ==== Sys2Proof/Safety.lean ====
section
/-! DEFINITION. What statements about the machine speak of: the part without its reports, when a block takes a write, and
the invariants. -/

namespace Sys2Proof.Machine

/-! ## The part without its reports -/

/-- The part without what the end of any event may change: the report writer, the requests in hand, and, of the command
unit, the long command, the echo and the disposals. -/
def Part.body (p : Part) : Part :=
  { p with
    report := .reset
    outbox := []
    cmd := { p.cmd with long := .none, echoOutstanding := false, echoHeld := none, disposals := [] } }

/-! ## What an event of the blocks leaves -/

/-- The part at the end of an event whose act left `q`: what ends every event is done, and the path has taken the own
requests. -/
def Part.settled (q : Part) : Part := { q.finish with outbox := [] }

/-- The machine after an event of the blocks whose act left the part as `q`. Memory and the commands that wait are as they
were, and the path has taken the own requests of the event. -/
def State.after (s : State) (q : Part) : State :=
  { s with part := q.settled, path := s.path.takeRequests q.finish q.finish.outbox }

/-- The part with the oldest event that the line supervisor handed for a line taken (R15). -/
def Part.eventTaken (p : Part) (n : Line) : Part :=
  p.setSupervisor n { p.sup[n] with handed := p.sup[n].handed.tail }

/-! ## When a block takes a write of its window -/

/-- RESETN is released. -/
def State.live (s : State) : Prop := s.path.resetAsserted = false

/-- The write of a word at an offset is one that its block takes now: it is the oldest hand-over of its window, or no
hand-over of the window stands and the port is idle (R154, log 3). -/
def State.takesWrite (s : State) (off : Nat) (w : Word) : Prop :=
  s.live ∧
    match s.path.oldestHandover off with
    | some x => x = ⟨off, w⟩
    | none => s.path.idle = true

/-- The write is a whole access: no hand-over of its window stands. -/
def State.wholeWrite (s : State) (off : Nat) : Bool := (s.path.oldestHandover off).isNone

/-- The machine when a block is about to take a write of its window: of a whole access the word is stored; a hand-over has
been stored before and leaves its list. -/
def State.served (s : State) (off : Nat) (w : Word) : State :=
  if s.wholeWrite off then s.storeWord (addressOf s.path.area off) w
  else { s with path := { s.path with handovers := s.path.handovers.erase ⟨off, w⟩ } }

/-- What memory reads as after a block has taken a write: a whole access stores the word; a hand-over was stored
before. -/
def State.memAfter (s : State) (off : Nat) (w : Word) (a : Nat) : Word :=
  if s.wholeWrite off ∧ a = (addressOf s.path.area off).toNat then w else s.mem.read a

/-- What a block's event leaves alone beside the blocks: memory, the commands that wait, RESETN, the strap value and the
word returned to a master. -/
def State.sameOutside (s t : State) : Prop :=
  t.mem = s.mem ∧ t.pending = s.pending ∧ t.path.resetAsserted = s.path.resetAsserted ∧ t.path.area = s.path.area ∧
    t.path.returned = s.path.returned

/-- The row of the table that a write of a command's code and an operand is (Table 10-5). -/
def Command.instr (c : Command) (operand : BitVec 8) : Instr :=
  match c with
  | .start => .start operand
  | .halt => .halt operand
  | .clearCalls => .clearCalls operand
  | .rescan => .rescan operand
  | .snapshot => .snapshot operand
  | .linkUp => .linkUp operand
  | .linkDown => .linkDown operand
  | .lineReset => .lineReset operand
  | .channelReset => .channelReset operand
  | .reportFlush => .reportFlush operand

/-- The offset and the word that a row writes to a snooped window; none for a row that is no such write. -/
def windowWrite : Instr → Option (Nat × Word)
  | .senseWrite n w => some (0x080 + n.val, w)
  | .signalInWrite k w => some (0x120 + k.val, w)
  | .signalCodeInstall x w => some (0x150 + x.val, w)
  | .pendingWordWrite off w => if isPendingOffset off.toNat then some (off.toNat, w) else none
  | .directoryCommit d w => some (0x803 + 4 * d.val, w)
  | .profileCommit n w => some (0x603 + 4 * n.val, w)
  | .channelConfigCommit k w => some (0x6C1 + 2 * k.val, w)
  | .generalConfigCommit w => some (0x6FF, w)
  | .toneDescriptorCommit t w => some (0x707 + 8 * t.val, w)
  | .ringCadenceCommit w => some (0x747, w)
  | .start operand => some (0x748, 0x01#8 ++ operand)
  | .halt operand => some (0x748, 0x02#8 ++ operand)
  | .clearCalls operand => some (0x748, 0x03#8 ++ operand)
  | .rescan operand => some (0x748, 0x04#8 ++ operand)
  | .snapshot operand => some (0x748, 0x05#8 ++ operand)
  | .linkUp operand => some (0x748, 0x06#8 ++ operand)
  | .linkDown operand => some (0x748, 0x07#8 ++ operand)
  | .lineReset operand => some (0x748, 0x08#8 ++ operand)
  | .channelReset operand => some (0x748, 0x09#8 ++ operand)
  | .reportFlush operand => some (0x748, 0x0A#8 ++ operand)
  | .commandUndefined w => if isCommandCode (commandCode w) then none else some (0x748, w)
  | .headerStateWrite x w => some (headerOffset x, w)
  | _ => none

/-! ## Reads of the switch area -/

/-- The offset that a row reads; none for a row that is no read. -/
def wordRead : Instr → Option Nat
  | .lineListenRead n => some (0x040 + n.val)
  | .lineDriveRead n => some (0x0C0 + n.val)
  | .channelListenRead k => some (0x110 + k.val)
  | .signalOutRead k => some (0x130 + k.val)
  | _ => none


/-- The machine after a whole read of the word at an offset that is served from the word at `source`, with its scaling. -/
def State.readFrom (s : State) (off source : Nat) (level : LevelCode) : State :=
  { s with path := { s.path with
      runCounter := 0
      returned := some (addressOf s.path.area off,
        level.scale (s.mem.read (addressOf s.path.area source).toNat)) } }

/-! ## RESETN asserted -/

/-- The machine while RESETN is asserted (R163, R164): every block in its reset state, no own request and no hand-over, and
an own access in service is one whose completion no block takes. -/
def State.inReset (s : State) : Prop :=
  s.path.resetAsserted = true ∧ s.part = Part.reset ∧ s.path.ownQueue = [] ∧ s.path.runCounter = 0 ∧
    s.path.handovers = [] ∧ s.path.reportDone = false ∧ s.path.echoDone = false ∧ s.path.rescanDone = none ∧
    (s.path.presented = none → s.path.waitKept = false) ∧
    ∀ a d who orphan, s.path.inService = some (.own a d who orphan) → orphan = true

/-! ## The events of a strobe -/

/-- The row of the table that takes an event of a strobe. -/
def StrobeEvent.row : StrobeEvent → Instr
  | .onHookMin n => .onHookMinExpiry n
  | .interDigitPause n => .interDigitPauseExpiry n
  | .firstDigit n => .firstDigitLimitExpiry n
  | .interDigit n => .interDigitLimitExpiry n
  | .hotline n => .hotlineDelayExpiry n
  | .cleardown n => .cleardownLimitExpiry n
  | .howler n => .howlerTimeExpiry n
  | .queueTimer n => .queueTimerExpiry n
  | .unusableTimer n => .unusableTimerExpiry n
  | .seizeLimit k => .seizeLimitExpiry k
  | .digitHold k => .digitHoldExpiry k
  | .digitGap k => .digitGapExpiry k
  | .incomingLimit k => .incomingDigitLimitExpiry k
  | .releaseGuard k => .releaseGuardExpiry k
  | .recovery k => .recoveryTimeExpiry k
  | .stall k => .stallExpiry k
  | .ready => .ready
  | .readyLost => .readyLost
  | .startLimit => .startLimitExpiry
  | .holdoff => .retryHoldoffExpiry
  | .silence => .silenceExpiry
  | .wake => .wakeEdge
  | .supply => .supplyAcceptance
  | .alertLimit n => .alertLimitExpiry n
  | .cadence n => .cadenceStepEnd n
  | .tone n => .toneStepEnd n
  | .age => .ageTimerExpiry

/-- The machine after a command; as it was, had the command no next state. -/
def State.run (s : State) (c : Instr) : State :=
  match exec c s with
  | .next t => t
  | _ => s

/-- RESETN is released and no event that an earlier strobe made due has been left behind. -/
def State.readyForStrobe (s : State) : Prop := s.live ∧ ∀ e ∈ strobeEvents, e.due s.part = false

/-! ## Invariants -/

/-- The canonical form of a memory. -/
abbrev Memory.wf (m : WordStore) : Bool := m.wf

/-- The frame memory and the pending copies are in canonical form. -/
def State.canonical (s : State) : Prop := Memory.wf s.mem = true ∧ Memory.wf s.part.copies = true

/-- R170: in HALTED every line is IDLE or OUT-OF-SERVICE, every channel is OFFLINE and the link is OFF; the wait queue, the
occupancy list and the ring queue are empty and no line holds a ring slot. No link change stands handed to a channel, since
HALT withdraws those it finds (log 15). -/
def State.haltedAtRest (s : State) : Prop :=
  s.part.cmd.mode = .halted →
    (∀ n : Line, (s.part.lines[n].state = .idle ∨ s.part.lines[n].state = .outOfService) ∧
        s.part.alloc.waiters[n] = none ∧ s.part.ring.slots[n] = none) ∧
      (∀ k : Chan, s.part.chans[k].state = .offline ∧ s.part.chans[k].linkChanges = []) ∧
      s.part.link.state = .off ∧ s.part.alloc.occupancy = [] ∧ s.part.ring.queue = []

/-- The bounds that R129, R158, R162 and R179 give, and no own request left untaken between events. -/
def State.bounded (s : State) : Prop :=
  s.part.supply.hold ≤ 800 ∧ s.path.runCounter ≤ 16 ∧ s.part.clock.frame ≤ 7 ∧ s.part.report.queue.length ≤ 8 ∧
    s.part.report.lost ≤ 65535 ∧ s.part.outbox = []

/-- R86: no two installed signal codes hold one value. -/
def Part.codesDistinct (p : Part) : Prop :=
  ∀ x y : Code, ∀ w : Word, p.codes[x] = some w → p.codes[y] = some w → x = y

/-- R46: no two valid directory entries have the same prefix. -/
def Part.entriesDistinct (p : Part) : Prop :=
  ∀ d e : EntryIx, p.directory[d].valid = true → p.directory[e].valid = true → p.directory[d].pfx = p.directory[e].pfx →
    d = e

/-- R46: every nibble of the prefix of a valid entry is a digit, 0 to 11. -/
def Part.entriesInDigits (p : Part) : Prop := ∀ d : EntryIx, p.directory[d].valid = true → ∀ x ∈ p.directory[d].pfx, x ≤ 11

/-- R167: no two in-service profiles share a station number. -/
def Part.stationsDistinct (p : Part) : Prop :=
  ∀ m n : Line, p.lines[m].profile.inService = true → p.lines[n].profile.inService = true →
    p.lines[m].profile.station = p.lines[n].profile.station → m = n

/-- R169: the installed general configuration is in range, and on-hook min exceeds break max. -/
def Part.generalInRange (p : Part) : Prop := p.gen.inRange = true ∧ p.gen.breakMax < p.gen.onHookMin

/-- The installed tables satisfy what their commits check. -/
def State.tablesConsistent (s : State) : Prop :=
  s.part.codesDistinct ∧ s.part.entriesDistinct ∧ s.part.entriesInDigits ∧ s.part.stationsDistinct ∧
    s.part.generalInRange

end Sys2Proof.Machine
end

