-- ==== Sys2Proof/Certificates/Slice0/Obligations.lean ====
section
/-! DEFINITION. The statements for the provers: one proposition each, in the order of OBLIGATIONS.json.

A row that is a write of a snooped window is stated for every state that takes it (`State.takesWrite`): the write stands as
the oldest hand-over of its window, or is a whole access on an idle port. A row that is a read is a whole access on an idle
port. A row that an expiry or a hand-over makes due is stated for every state in which it is due. These forms are the model's
(logs 1 to 3). -/

open Sys2Proof Sys2Proof.Machine

/-! ## The machine -/

/-- Taking the command at the front of the queue is running that command on the machine with the queue's rest. -/
def Obligations.StepRunsFrontCommand : Prop :=
  ∀ (c : Instr) (s : State), step { s with pending := c :: s.pending } = exec c s

/-- Every command from every state leads to a next state and leaves the commands that wait alone; and, the model's choice
(log 4), on an empty queue the part waits and nothing changes. -/
def Obligations.EveryStepCompletes : Prop :=
  (∀ (c : Instr) (s : State), ∃ t, exec c s = .next t ∧ t.pending = s.pending) ∧
  ∀ s : State, s.pending = [] → step s = .next s

/-- What the release of RESETN leaves in every block, as the blocks' reset rules give it. -/
def Obligations.ResetValues : Prop :=
  let p := State.reset.part
  (∀ n : Line, p.sup[n] = {
      loop := .opened, candidate := none, run := 0, phase := .resting, timer := ⟨false, 0, false⟩,
      pulses := 0, lastPresent := false, handed := [] }) ∧
  (∀ n : Line, (p.lines[n].state, p.lines[n].partner, p.lines[n].role, p.lines[n].digits, p.lines[n].route) =
      (.outOfService, none, none, [], none)) ∧
  (∀ n : Line, (p.lines[n].cause, p.lines[n].timer.running, p.lines[n].firstDigitSeen, p.lines[n].answeredAsCaller,
      p.lines[n].howlerDone) = (none, false, false, false, false)) ∧
  (∀ n : Line, p.lines[n].profile = {
      inService := false, station := 0, level := .unity, ringPattern := .a, reversal := false, trunkAccess := false
      lineClass := .normal, hotline := none, hotlineDelay := 0 }) ∧
  (∀ d : EntryIx, p.directory[d] = {
      valid := false, pfxLength := 0, totalLength := 0, strip := 0, kind := 0, callClass := 0
      nibbles := #v[0, 0, 0, 0, 0, 0], preempt := false, mask := 0 }) ∧
  (∀ n : Line, p.alloc.waiters[n] = none) ∧ p.alloc.occupancy = [] ∧
  (∀ k : Chan, p.alloc.pointers[k] = { normal := none, priority := none, emergency := none }) ∧
  (∀ k : Chan, p.chans[k].config = { enabled := false, stallWatch := true, stallLimit := 100 }) ∧
  (∀ k : Chan, (p.chans[k].state, p.chans[k].direction, p.chans[k].callClass, p.chans[k].partner, p.chans[k].accepted) =
      (.offline, none, none, none, none)) ∧
  (∀ k : Chan, (p.chans[k].candidate, p.chans[k].run, p.chans[k].sendList, p.chans[k].received, p.chans[k].reject,
      p.chans[k].draining, p.chans[k].timer.running, p.chans[k].stall.running) =
      (none, 0, [], [], none, false, false, false)) ∧
  (∀ x : Code, p.codes[x] = none) ∧
  p.link = {
    state := .off, origin := none, demandFlag := false, rememberedWake := false, timer := ⟨false, 0, false⟩,
    silence := ⟨false, 0, false⟩, lastWake := false, rrdySample := none, wakeEdge := false } ∧
  p.supply = { warning := false, hold := 0 } ∧
  (∀ n : Line, p.ring.slots[n] = none ∧ p.ring.alert[n].running = false) ∧ p.ring.queue = [] ∧
  (∀ (t : ToneIx) (i : Fin 4), p.tone.descriptors[t][i] = { start := 0, length := 0, duration := 0 }) ∧
  p.tone.cadence = #v[⟨true, 400⟩, ⟨false, 200⟩, ⟨true, 400⟩, ⟨false, 2000⟩] ∧
  (∀ n : Line, p.tone.positions[n] = { tone := none, step := 0, left := .count 0, phase := 0, next := none }) ∧
  (∀ off : Nat, p.copies.read off = 0) ∧
  p.gen = {
    debounceCount := 40, breakMax := 120, onHookMin := 400, interDigitPause := 250, firstDigitLimit := 10,
    interDigitLimit := 6, cleardownLimit := 30, howlerTime := 20, alertLimit := 90, queueWaitLimit := 60,
    linkWaitLimit := 15, persistence := 3, seizeLimit := 2000, digitHold := 60, digitGap := 60, incomingDigitLimit := 3,
    releaseGuard := 5, recoveryTime := 1000, startLimit := 8, retryHoldoff := 30, silenceLimit := 120, policy := .off,
    switching := .isolated, ringBudget := 3, enableMask := 0xFF, urgentMask := 0x38, ageLimit := 1000 } ∧
  (p.cmd.mode, p.cmd.long, p.cmd.sequence, p.cmd.echoOutstanding, p.cmd.echoHeld) = (.halted, .none, 0, false, none) ∧
  (p.report.queue.map Record.kind, p.report.lost, p.report.bufferA, p.report.bufferB, p.report.lastClosed,
    p.report.closePending, p.report.age.running) = ([.restart], 0, .disarmed, .disarmed, none, none, false) ∧
  p.clock = { frame := 0, ms := 0 } ∧ State.reset.path.ownQueue = [] ∧ State.reset.path.runCounter = 0 ∧
  p.attention = false ∧ p.linkEnable = false ∧ State.reset.path.wait = false ∧ State.reset.pending = []

/-! ## RESETN -/

/-- R163, with RESET_ASSERTION and the WAIT of R160 and R164: while RESETN is asserted every block keeps its reset state whatever
command is given, accesses are forwarded unchanged and untranslated, and memory is not changed by the reset; an access held at
the assertion keeps WAIT, and one presented afterwards shows none. A held access is started, untranslated and not handed over,
when the access in service completes. -/
def Obligations.AssertedResetHoldsTheBlocks : Prop :=
  (∀ s : State, ∃ t, exec .resetAssertion s = .next t ∧ t.inReset ∧ t.mem = s.mem ∧ t.pending = s.pending ∧
      t.path.presented = s.path.presented ∧ t.path.wait = s.path.wait) ∧
  (∀ (s : State) (access : MasterAccess), s.inReset → s.path.presented = none → s.path.inService ≠ none →
    ∃ t, exec (.forwardedAccessPresented access) s = .next t ∧ t.path.presented = some access ∧ t.path.wait = false) ∧
  (∀ (s : State) (c : Instr), s.inReset → (∀ area, c ≠ .resetRelease area) → ∃ t, exec c s = .next t ∧ t.inReset) ∧
  (∀ (s : State) (a d : Word), s.inReset → s.path.inService = none → s.path.presented = none →
      exec (.forwardedAccessPresented (.write a d)) s =
        .next { s with path := { s.path with inService := some (.write a d) } } ∧
      exec (.forwardedAccessPresented (.read a)) s =
        .next { s with path := { s.path with inService := some (.read a a .unity) } }) ∧
  (∀ (s : State) (service : Service) (access : MasterAccess), s.inReset → s.path.inService = some service →
    s.path.presented = some access → ∃ t, exec .portAccessComplete s = .next t ∧ t.inReset ∧ t.path.presented = none ∧
      t.path.wait = false ∧ t.path.inService = some (match access with
        | .write a d => .write a d
        | .read a => .read a a .unity)) ∧
  (∀ (s : State) (a d : Word), s.inReset → s.path.idle = true → Memory.wf s.mem = true →
    ∃ t, exec (.masterWrite a d) s = .next t ∧ (∀ x, t.mem.read x = if x = a.toNat then d else s.mem.read x) ∧
      t.path = s.path ∧ t.part = s.part ∧ t.pending = s.pending) ∧
  (∀ (s : State) (rrdy rwake supw : Bool), s.inReset → exec (.frameStrobe rrdy rwake supw) s = .next s)

/-- RESET_RELEASE (R153, R164, R180): the straps are sampled, every block takes its reset values, and RESTART, which carries
the sampled base, is the one record in the report queue. -/
def Obligations.ReleaseSamplesStrapsAndReportsRestart : Prop :=
  ∀ (s : State) (area : Fin 4), s.inReset → ∃ t, exec (.resetRelease area) s = .next t ∧
    t.mem = s.mem ∧ t.pending = s.pending ∧ t.path = { s.path with resetAsserted := false, area := area } ∧
    t.part = { Part.reset with report := { Part.reset.report with queue := t.part.report.queue } } ∧
    ∃ r, t.part.report.queue = [r] ∧ r.kind = .restart ∧ r.subject = .none ∧ r.detailA = BitVec.ofNat 16 area.val ∧
      r.stamp = 0

/-! ## The frame strobe -/

/-- R162: the frame counter and the report clock, and the stamp that the report writer reads from the clock. -/
def Obligations.ReportClockCountsMilliseconds : Prop :=
  (∀ (s : State) (rrdy rwake supw : Bool), s.live → ∃ t, exec (.frameStrobe rrdy rwake supw) s = .next t ∧
      t.part.clock =
        if s.part.clock.frame + 1 = 8 then ⟨0, s.part.clock.ms + 1⟩ else ⟨s.part.clock.frame + 1, s.part.clock.ms⟩) ∧
  (∀ s : State, ∃ t, exec .resetAssertion s = .next t ∧ t.part.clock = ⟨0, 0⟩) ∧
  (∀ (s : State) (area : Fin 4), s.inReset → ∃ t, exec (.resetRelease area) s = .next t ∧ t.part.clock = ⟨0, 0⟩) ∧
  (∀ (c : Instr) (s t : State), (∀ rrdy rwake supw, c ≠ .frameStrobe rrdy rwake supw) → c ≠ .resetAssertion →
      (∀ area, c ≠ .resetRelease area) → exec c s = .next t → t.part.clock = s.part.clock) ∧
  (∀ (p : Part) (kind : RecordKind) (subject : Subject) (a b : Word) (tag : SnapshotTag), p.groupEnabled kind = true →
      p.report.queue.length < 8 →
      (p.hand kind subject a b tag).report.queue = p.report.queue ++ [⟨kind, subject, a, b, p.clock.ms, tag⟩])

/-- R161 and the limits of R6, R9, R21, R72, R73, R85, R89, R119, R121, R123, R140, R184: with no event left behind, a strobe
raises every running timer by 1, marks those that reach their limits as due, and leaves every stopped timer and everything that
is no timer, position, sampled input or clock alone. -/
def Obligations.StrobeCountsEveryTimer : Prop :=
  (∀ (t : Timer) (limit : Nat), t.running = true →
      t.tick (some limit) = ⟨true, t.count + 1, t.due || decide (limit ≤ t.count + 1)⟩ ∧
      t.tick none = ⟨true, t.count + 1, t.due⟩) ∧
  (∀ (t : Timer) (limit : Option Nat), t.running = false → t.tick limit = t) ∧
  ∀ (s : State) (rrdy rwake supw : Bool), s.readyForStrobe → ∃ t, exec (.frameStrobe rrdy rwake supw) s = .next t ∧
    t.mem = s.mem ∧ t.path = s.path ∧ t.pending = s.pending ∧
    (∀ n : Line, t.part.sup[n] = { s.part.sup[n] with
        timer := s.part.sup[n].timer.tick (match s.part.sup[n].phase with
          | .breaking => some (8 * s.part.gen.onHookMin)
          | .making => some (8 * s.part.gen.interDigitPause)
          | _ => none) }) ∧
    (∀ n : Line, t.part.lines[n] = { s.part.lines[n] with
        timer := s.part.lines[n].timer.tick (some (8000 * match s.part.lines[n].limit with
          | .firstDigit => s.part.gen.firstDigitLimit
          | .interDigit => s.part.gen.interDigitLimit
          | .hotlineDelay seconds => seconds
          | .cleardown => s.part.gen.cleardownLimit
          | .howler => s.part.gen.howlerTime)) }) ∧
    (∀ n : Line, s.part.alloc.waiters[n] = none → t.part.alloc.waiters[n] = none) ∧
    (∀ (n : Line) (e : WaitEntry), s.part.alloc.waiters[n] = some e → t.part.alloc.waiters[n] = some { e with
        queueTimer := e.queueTimer.tick (if s.part.gen.queueWaitLimit = 0 then none
          else some (8000 * s.part.gen.queueWaitLimit))
        unusableTimer := e.unusableTimer.tick (some (8000 * s.part.gen.linkWaitLimit)) }) ∧
    (∀ k : Chan, t.part.chans[k] = { s.part.chans[k] with
        timer := s.part.chans[k].timer.tick (match s.part.chans[k].state with
          | .seizing => some (8 * s.part.gen.seizeLimit)
          | .sending => match s.part.chans[k].sendPhase with
            | .digit => some (8 * s.part.gen.digitHold)
            | .gap => some (8 * s.part.gen.digitGap)
          | .incoming => some (8000 * s.part.gen.incomingDigitLimit)
          | .rejecting | .clearing | .releasing => some (8000 * s.part.gen.releaseGuard)
          | .fault => some (8 * s.part.gen.recoveryTime)
          | _ => none)
        stall := s.part.chans[k].stall.tick (some (8 * s.part.chans[k].config.stallLimit)) }) ∧
    (∀ n : Line, t.part.ring.alert[n] = s.part.ring.alert[n].tick (some (8000 * s.part.gen.alertLimit))) ∧
    t.part.report = { s.part.report with age := s.part.report.age.tick (some (8 * s.part.gen.ageLimit)) } ∧
    t.part.link = { s.part.link with
      timer := s.part.link.timer.tick (match s.part.link.state with
        | .starting => some (8000 * s.part.gen.startLimit)
        | .holdoff => some (8000 * s.part.gen.retryHoldoff)
        | _ => none)
      silence := s.part.link.silence.tick (some (8000 * s.part.gen.silenceLimit))
      lastWake := t.part.link.lastWake, rrdySample := t.part.link.rrdySample, wakeEdge := t.part.link.wakeEdge } ∧
    t.part.supply.warning = s.part.supply.warning ∧ t.part.outbox = s.part.outbox ∧
    t.part.alloc.occupancy = s.part.alloc.occupancy ∧ t.part.alloc.pointers = s.part.alloc.pointers ∧
    t.part.ring.queue = s.part.ring.queue ∧ t.part.directory = s.part.directory ∧ t.part.codes = s.part.codes ∧
    t.part.copies = s.part.copies ∧ t.part.gen = s.part.gen ∧ t.part.cmd = s.part.cmd ∧
    t.part.tone.descriptors = s.part.tone.descriptors ∧ t.part.tone.cadence = s.part.tone.cadence

/-- R116, R117, R121, R129, R138, R146: what a strobe does to the link's timers and samples, the supply hold count, the cadence
positions of the slot holders and the tone positions. A sample stands for its row only where it makes an event (log 17), and a
position whose step ends names the step it moves to by its own row (log 2). A strobe first takes what the strobes before it made
due and no row took, each by its row, in the model's fixed order (log 2). -/
def Obligations.StrobeSamplesAndAdvancesPositions : Prop :=
  (∀ (s : State) (rrdy rwake supw : Bool), s.live →
    let t := strobeEvents.foldl (fun u e => u.run e.row) s
    exec (.frameStrobe rrdy rwake supw) s = .next { t with part := t.part.strobe rrdy rwake supw }) ∧
  ∀ (s : State) (rrdy rwake supw : Bool), s.readyForStrobe → ∃ t, exec (.frameStrobe rrdy rwake supw) s = .next t ∧
    t.part.link = { s.part.link with
      timer := s.part.link.timer.tick (match s.part.link.state with
        | .starting => some (8000 * s.part.gen.startLimit)
        | .holdoff => some (8000 * s.part.gen.retryHoldoff)
        | _ => none)
      silence := s.part.link.silence.tick (some (8000 * s.part.gen.silenceLimit))
      lastWake := rwake
      rrdySample := if s.part.link.state = .starting ∧ rrdy = true then some true
        else if s.part.link.state = .up ∧ rrdy = false then some false else none
      wakeEdge := decide (rwake = true ∧ s.part.link.lastWake = false ∧ s.part.cmd.mode = .running ∧
        s.part.gen.policy ≠ .off) } ∧
    t.part.supply = { s.part.supply with
      hold := if supw = s.part.supply.warning then 0 else min 800 (s.part.supply.hold + 1) } ∧
    (∀ n : Line, s.part.ring.slots[n] = none → t.part.ring.slots[n] = none) ∧
    (∀ (n : Line) (c : CadencePosition), s.part.ring.slots[n] = some c →
      (c.step.val < cadenceLength s.part.tone.cadence → c.count + 1 < 8 * s.part.tone.cadence[c.step].duration →
        t.part.ring.slots[n] = some { c with count := c.count + 1 }) ∧
      (cadenceLength s.part.tone.cadence ≤ c.step.val ∨ 8 * s.part.tone.cadence[c.step].duration ≤ c.count + 1 →
        ∃ next : Fin 4,
        t.part.ring.slots[n] = some { c with count := c.count + 1, next := some next } ∧
        next.val = if c.step.val + 1 = 4 ∨ cadenceLength s.part.tone.cadence ≤ c.step.val + 1 then 0
          else c.step.val + 1)) ∧
    (∀ n : Line, s.part.tone.positions[n].tone = none → t.part.tone.positions[n] = s.part.tone.positions[n]) ∧
    (∀ (n : Line) (tone : ToneIx), s.part.tone.positions[n].tone = some tone →
      let x := s.part.tone.positions[n]
      let len := s.part.tone.descriptors[tone][x.step].length
      let phase := if len = 0 then 0 else (x.phase + 1) % len
      (x.left = .held → t.part.tone.positions[n] = { x with phase := phase }) ∧
      (∀ next : Fin 4, x.left = .count 1 → next.val = (x.step.val + 1) % 4 →
        let d := s.part.tone.descriptors[tone][next].duration
        t.part.tone.positions[n] = { x with
          left := .count 0, next := some (next, if d = 0 then .held else .count (8 * d)) }) ∧
      (∀ left, x.left = .count (left + 2) →
        t.part.tone.positions[n] = { x with left := .count (left + 1), phase := phase }))

/-! ## The memory port -/

/-- R158: the run counter at reset, what the arbiter starts, and the run counter after it. -/
def Obligations.ArbiterChoosesByTheRunCounter : Prop :=
  (∀ s : State, ∃ t, exec .resetAssertion s = .next t ∧ t.path.runCounter = 0) ∧
  (∀ (s : State) (area : Fin 4), s.inReset → ∃ t, exec (.resetRelease area) s = .next t ∧ t.path.runCounter = 0) ∧
  ∀ (h : Path) (p : Part),
    (h.inService ≠ none → h.arbitrate p = h) ∧
    (h.presented = none → h.ownQueue = [] → h.arbitrate p = h) ∧
    (∀ access, h.inService = none → h.presented = some access → h.ownQueue = [] →
      h.arbitrate p = { h with presented := none, runCounter := 0 }.startForwarded p access) ∧
    (∀ access r rest, h.inService = none → h.presented = some access → h.ownQueue = r :: rest → h.runCounter < 16 →
      h.arbitrate p = { h with presented := none, runCounter := h.runCounter + 1 }.startForwarded p access) ∧
    (∀ access r rest, h.inService = none → h.presented = some access → h.ownQueue = r :: rest → h.runCounter = 16 →
      h.arbitrate p = { h with
        ownQueue := rest, runCounter := 0
        inService := some (.own (addressOf h.area r.offset) r.data r.who false) }) ∧
    (∀ r rest, h.inService = none → h.presented = none → h.ownQueue = r :: rest →
      h.arbitrate p = { h with
        ownQueue := rest, runCounter := 0
        inService := some (.own (addressOf h.area r.offset) r.data r.who false) })

/-- FORWARDED_ACCESS_PRESENTED and MASTER_WRITE (R152, R154, R155, R160): a presented access waits, with WAIT, while the port
is busy; on a free port a write is served as the master gave it and handed over if its window is snooped, and a read is served from the
word that the translation names. A whole master write on an idle port reaches memory at the address given; one to a window
that is not snooped, or outside the switch area, has no other effect (log 3). On a busy port a master write and every read row
present their access, and a write of a snooped window that its block does not take now is a master write of its word. While
RESETN is asserted the address of a row that names an offset is that of the base last sampled, and its read is not translated
(the model's choice, log 28). -/
def Obligations.ForwardedAccessesAreServed : Prop :=
  (∀ (s : State) (access : MasterAccess), s.path.presented = none → s.path.inService ≠ none →
    ∃ t, exec (.forwardedAccessPresented access) s = .next t ∧
      t = { s with path := { s.path with presented := some access } } ∧ (s.live → t.path.wait = true)) ∧
  (∀ (s : State) (a d : Word), s.live → s.path.idle = true →
    exec (.forwardedAccessPresented (.write a d)) s = .next { s with path := { s.path with
      inService := some (.write a d), runCounter := 0, waitKept := false
      handovers := s.path.handovers ++ match offsetOf s.path.area a with
        | some off => if (snoopWindow off).isSome then [⟨off, d⟩] else []
        | none => [] } }) ∧
  (∀ (s : State) (a : Word), s.live → s.path.idle = true → offsetOf s.path.area a = none →
    exec (.forwardedAccessPresented (.read a)) s =
      .next { s with path := { s.path with
        inService := some (.read a a .unity), runCounter := 0, waitKept := false } }) ∧
  (∀ (s : State) (a : Word) (off : Nat), s.live → s.path.idle = true → offsetOf s.path.area a = some off →
    exec (.forwardedAccessPresented (.read a)) s = .next { s with path := { s.path with
      runCounter := 0, waitKept := false
      inService := some (.read a (addressOf s.path.area (s.part.translate off).1) (s.part.translate off).2) } }) ∧
  (∀ (s : State) (a d : Word), Memory.wf s.mem = true → s.path.idle = true →
    ∃ t, exec (.masterWrite a d) s = .next t ∧
      (∀ x, t.mem.read x = if x = a.toNat then d else s.mem.read x) ∧ t.part = s.part ∧ t.pending = s.pending ∧
      (offsetOf s.path.area a = none → t.path = { s.path with runCounter := 0 }) ∧
      (∀ off, offsetOf s.path.area a = some off → snoopWindow off = none → t.path = { s.path with runCounter := 0 }) ∧
      (∀ off window, s.live → offsetOf s.path.area a = some off → snoopWindow off = some window →
        t.path = { s.path with runCounter := 0, handovers := s.path.handovers ++ [⟨off, d⟩] })) ∧
  (∀ (s : State) (a d : Word), s.path.idle = false →
    exec (.masterWrite a d) s = exec (.forwardedAccessPresented (.write a d)) s) ∧
  (∀ (s : State) (c : Instr) (off : Nat), s.path.idle = false → wordRead c = some off →
    exec c s = exec (.forwardedAccessPresented (.read (addressOf s.path.area off))) s) ∧
  (∀ (s : State) (c : Instr) (off : Nat), s.path.resetAsserted = true → s.path.idle = true → wordRead c = some off →
    let a := addressOf s.path.area off
    exec c s = .next { s with path := { s.path with
      runCounter := 0, returned := some (a, s.mem.read a.toNat) } }) ∧
  (∀ (s : State) (c : Instr) (off : Nat) (w : Word), windowWrite c = some (off, w) → ¬ s.takesWrite off w →
    exec c s = exec (.masterWrite (addressOf s.path.area off) w) s)

/-- PORT_ACCESS_COMPLETE (R152, R155, R156, R164): what completes on the port, and what starts then. -/
def Obligations.PortCompletionServesTheAccess : Prop :=
  ∀ s : State, Memory.wf s.mem = true →
    (∀ a d, s.path.inService = some (.write a d) → ∃ t, exec .portAccessComplete s = .next t ∧
      (∀ x, t.mem.read x = if x = a.toNat then d else s.mem.read x) ∧ t.part = s.part ∧ t.pending = s.pending ∧
      t.path = { s.path with inService := none }.arbitrate s.part) ∧
    (∀ a source level, s.path.inService = some (.read a source level) → exec .portAccessComplete s = .next { s with
      path := { s.path with
        inService := none, returned := some (a, level.scale (s.mem.read source.toNat)) }.arbitrate s.part }) ∧
    (∀ a d, s.path.inService = some (.own a (some d) .reportWriter false) → ∃ t, exec .portAccessComplete s = .next t ∧
      (∀ x, t.mem.read x = if x = a.toNat then d else s.mem.read x) ∧ t.part = s.part ∧ t.pending = s.pending ∧
      t.path = { s.path with inService := none, reportDone := true }.arbitrate s.part) ∧
    (∀ a d, s.path.inService = some (.own a (some d) .commandUnit false) → ∃ t, exec .portAccessComplete s = .next t ∧
      (∀ x, t.mem.read x = if x = a.toNat then d else s.mem.read x) ∧ t.part = s.part ∧ t.pending = s.pending ∧
      t.path = { s.path with inService := none, echoDone := true }.arbitrate s.part) ∧
    (∀ a, s.path.inService = some (.own a none .tableLoader false) → exec .portAccessComplete s = .next { s with
      path := { s.path with inService := none, rescanDone := some (s.mem.read a.toNat) }.arbitrate s.part }) ∧
    (∀ a d who, s.path.inService = some (.own a (some d) who true) → ∃ t, exec .portAccessComplete s = .next t ∧
      (∀ x, t.mem.read x = if x = a.toNat then d else s.mem.read x) ∧ t.part = s.part ∧ t.pending = s.pending ∧
      t.path = { s.path with inService := none }.arbitrate s.part) ∧
    (∀ a who, s.path.inService = some (.own a none who true) → exec .portAccessComplete s = .next { s with
      path := { s.path with inService := none }.arbitrate s.part })

/-! ## Translated reads -/

/-- LINE_LISTEN_READ (Table 2-2, R147, R148): the word a listen read is served from, by the line's state, and its scaling by
the line's level code; nothing else changes. A position whose step a strobe has ended stands in the next step from that strobe
on (R146). -/
def Obligations.LineListenReadByState : Prop :=
  ∀ (s : State) (n : Line), s.live → s.path.idle = true →
    let l := s.part.lines[n]
    let served (source : Nat) : Prop :=
      exec (.lineListenRead n) s = .next (s.readFrom (0x040 + n.val) source l.profile.level)
    ((l.state = .outOfService ∨ l.state = .idle ∨ l.state = .alerting ∨
      (l.state = .dialing ∧ l.firstDigitSeen = true) ∨ (l.state = .lockout ∧ l.howlerDone = true)) → served 0x140) ∧
    (∀ m : Line, (l.state = .trunkSetup ∨ l.state = .talk) → l.partner = some (.line m) → served m.val) ∧
    (∀ k : Chan, (l.state = .trunkSetup ∨ l.state = .talk) → l.partner = some (.chan k) → served (0x100 + k.val)) ∧
    (∀ t : ToneIx,
      ((l.state = .dialing ∧ l.firstDigitSeen = false ∧ t = 0) ∨ (l.state = .queued ∧ t = 7) ∨
        (l.state = .localCalling ∧ t = 1) ∨ (l.state = .lockout ∧ l.howlerDone = false ∧ t = 5) ∨
        (l.state = .cleardown ∧ ((l.cause = some .busy ∧ t = 2) ∨ (l.cause = some .congestion ∧ t = 3) ∨
          (l.cause = some .unobtainable ∧ t = 4) ∨ (l.cause = some .preempted ∧ t = 6)))) →
      s.part.tone.positions[n].tone = some t →
      let x := s.part.tone.positions[n]
      let place : Fin 4 × Nat := match x.next with
        | some (step, _) => (step, 0)
        | none => (x.step, x.phase)
      let step := s.part.tone.descriptors[t][place.1]
      (step.length = 0 → served 0x140) ∧
      (step.length ≠ 0 → served (0x200 + (step.start + place.2 % step.length))))

/-- LINE_DRIVE_READ, CHANNEL_LISTEN_READ and SIGNAL_OUT_READ (Table 2-2, Table 5-6, R90, R139, R149, R150): the words they
are served from by the line's or channel's state, unscaled; nothing else changes. A cadence position whose step a strobe has
ended stands in the next step from that strobe on (R138). The kind of a step is the one stored for it (log 27). -/
def Obligations.DriveAndChannelReadsByState : Prop :=
  (∀ (s : State) (n : Line), s.live → s.path.idle = true →
    let l := s.part.lines[n]
    let served (pattern : Nat) : Prop :=
      exec (.lineDriveRead n) s = .next (s.readFrom (0x0C0 + n.val) (0x141 + pattern) .unity)
    (l.state = .outOfService → served 4) ∧
    ((l.state = .idle ∨ l.state = .dialing ∨ l.state = .queued ∨ l.state = .trunkSetup ∨ l.state = .localCalling ∨
      l.state = .cleardown) → served 0) ∧
    (∀ c : CadencePosition, l.state = .alerting → s.part.ring.slots[n] = some c →
      s.part.tone.cadence[c.next.getD c.step].on = true → served (match l.profile.ringPattern with | .a => 2 | .b => 3)) ∧
    (∀ c : CadencePosition, l.state = .alerting → s.part.ring.slots[n] = some c →
      s.part.tone.cadence[c.next.getD c.step].on = false → served 0) ∧
    (l.state = .alerting → s.part.ring.slots[n] = none → served 0) ∧
    (l.state = .talk → served (if l.answeredAsCaller = true ∧ l.profile.reversal = true then 1 else 0)) ∧
    (l.state = .lockout → served (if l.howlerDone = true then 4 else 0))) ∧
  (∀ (s : State) (k : Chan), s.live → s.path.idle = true →
    let c := s.part.chans[k]
    let heard (source : Nat) : Prop :=
      exec (.channelListenRead k) s = .next (s.readFrom (0x110 + k.val) source .unity)
    let sent (code : Nat) : Prop :=
      exec (.signalOutRead k) s = .next (s.readFrom (0x130 + k.val) (0x150 + code) .unity)
    (∀ m : Line, (c.state = .seizing ∨ c.state = .sending ∨ c.state = .awaitAnswer ∨ c.state = .talk) →
      c.partner = some m → heard m.val) ∧
    ((c.state ≠ .seizing ∧ c.state ≠ .sending ∧ c.state ≠ .awaitAnswer ∧ c.state ≠ .talk) → heard 0x140) ∧
    ((c.state = .offline ∨ c.state = .fault) → sent 9) ∧
    ((c.state = .idle ∨ c.state = .releasing ∨ c.state = .blockedFar) → sent 0) ∧
    (c.state = .seizing → sent 1) ∧ (c.state = .awaitAnswer → sent 3) ∧ (c.state = .incoming → sent 2) ∧
    (c.state = .ringingIn → sent 4) ∧ (c.state = .talk → sent 5) ∧ (c.state = .clearing → sent 6) ∧
    (c.state = .rejecting → c.reject = some .busy → sent 7) ∧ (c.state = .rejecting → c.reject = some .vacant → sent 8) ∧
    (c.state = .sending → c.sendPhase = .gap → sent 1) ∧
    (∀ h : c.sendPosition < c.sendList.length, c.state = .sending → c.sendPhase = .digit →
      sent (10 + c.sendList[c.sendPosition].val)))

/-- R148: a listen read is scaled by the line's level code in force at the read, whatever word it is served from; memory is
not changed; and no other read is scaled. -/
def Obligations.ListenReadsAreScaledByLevelCode : Prop :=
  (∀ w : Word, LevelCode.unity.scale w = w ∧
    (LevelCode.boost.scale w).toInt =
      (if 32767 < 2 * w.toInt then 32767 else if 2 * w.toInt < -32768 then -32768 else 2 * w.toInt) ∧
    (LevelCode.cut6.scale w).toInt = ⌊(w.toInt : ℚ) / 2⌋ ∧ (LevelCode.cut12.scale w).toInt = ⌊(w.toInt : ℚ) / 4⌋) ∧
  (∀ (s : State) (n : Line), s.live → s.path.idle = true → ∃ source, ∃ t, exec (.lineListenRead n) s = .next t ∧
    t = s.readFrom (0x040 + n.val) source s.part.lines[n].profile.level ∧ ∀ x, t.mem.read x = s.mem.read x) ∧
  (∀ (p : Part) (n : Line), (p.translate (0x040 + n.val)).2 = p.lines[n].profile.level) ∧
  (∀ (p : Part) (off : Nat), (off < 0x040 ∨ 0x040 + 48 ≤ off) → (p.translate off).2 = .unity) ∧
  (∀ (p : Part) (n : Line), p.translate n.val = (n.val, .unity))

/-! ## The line supervisor

A sense write is a write of the sense word at 080H + n; bit 15 of the word is the loop, closed when set, bit 14 is digit
present, and bits 3 to 0 are the digit code (Table 10-6). -/

/-- SENSE_WRITE, R2: a write that shows the debounced loop breaks the run; a write that shows the other value extends the run
or begins one; a run that reaches the debounce count is an acceptance, which starts the duration timer. The digit field is
processed after the loop field (R12 to R14): a digit edge with a code of 0 to 11, in MAKE or STEADY and on a line in DIALING,
completes the pulse digit in progress and hands the tone digit; any other edge is consumed. -/
def Obligations.SenseWriteTakesLoopThenDigit : Prop :=
  (∀ (s : State) (n : Line) (w : Word), s.takesWrite (0x080 + n.val) w →
    let v := s.part.sup[n]
    let loop : Loop := if w.getLsbD 15 then .closed else .opened
    let gives (v' : Supervisor) : Prop := exec (.senseWrite n w) s =
      .next ((s.served (0x080 + n.val) w).after (s.part.setSupervisor n
        (v'.toneField (w.getLsbD 14) (w.extractLsb' 0 4).toNat s.part.lines[n].state)))
    (loop = v.loop → gives { v with candidate := none, run := 0 }) ∧
    (loop ≠ v.loop → v.candidate = some loop → v.run + 1 < s.part.gen.debounceCount →
      gives { v with run := v.run + 1 }) ∧
    (loop ≠ v.loop → v.candidate = none → 1 < s.part.gen.debounceCount →
      gives { v with candidate := some loop, run := 1 }) ∧
    (loop ≠ v.loop → s.part.gen.debounceCount ≤ (if v.candidate = some loop then v.run + 1 else 1) →
      ∃ v', gives v' ∧ v'.loop = loop ∧ v'.candidate = none ∧ v'.run = 0 ∧ v'.timer = ⟨true, 0, false⟩)) ∧
  (∀ (v : Supervisor) (present : Bool) (code : Nat) (state : LineState),
    ((present = false ∨ v.lastPresent = true ∨ 12 ≤ code ∨ v.phase = .resting ∨ v.phase = .breaking ∨
      state ≠ .dialing) → v.toneField present code state = { v with lastPresent := present }) ∧
    (∀ d : Digit, present = true → v.lastPresent = false → code = d.val → (v.phase = .making ∨ v.phase = .steady) →
      state = .dialing →
      (v.pulses = 0 → v.toneField present code state =
        { v with lastPresent := true, pulses := 0, handed := v.handed ++ [.digit d] }) ∧
      (∀ x : Digit, v.pulses = x.val → 1 ≤ v.pulses → v.pulses ≤ 9 → v.toneField present code state =
        { v with lastPresent := true, pulses := 0, handed := v.handed ++ [.digit x, .digit d] }) ∧
      (v.pulses = 10 → v.toneField present code state =
        { v with lastPresent := true, pulses := 0, handed := v.handed ++ [.digit 0, .digit d] }) ∧
      (11 ≤ v.pulses → v.toneField present code state =
        { v with lastPresent := true, pulses := 0, handed := v.handed ++ [.misdial, .digit d] })))

/-- R4 and R5, with the debounce of R2: an accepted closure in RESTING is OFF-HOOK; an accepted opening in MAKE or STEADY
begins a break. -/
def Obligations.ClosureFromRestingAndOpeningOfMake : Prop :=
  ∀ (s : State) (n : Line) (w : Word), s.takesWrite (0x080 + n.val) w →
    let v := s.part.sup[n]
    let gives (v' : Supervisor) : Prop := exec (.senseWrite n w) s =
      .next ((s.served (0x080 + n.val) w).after (s.part.setSupervisor n
        (v'.toneField (w.getLsbD 14) (w.extractLsb' 0 4).toNat s.part.lines[n].state)))
    (w.getLsbD 15 = true → v.loop = .opened → v.phase = .resting →
      s.part.gen.debounceCount ≤ (if v.candidate = some .closed then v.run + 1 else 1) →
      gives { v with
        loop := .closed, candidate := none, run := 0, phase := .making, timer := ⟨true, 0, false⟩, pulses := 0
        handed := v.handed ++ [.offHook] }) ∧
    (w.getLsbD 15 = false → v.loop = .closed → (v.phase = .making ∨ v.phase = .steady) →
      s.part.gen.debounceCount ≤ (if v.candidate = some .opened then v.run + 1 else 1) →
      gives { v with
        loop := .opened, candidate := none, run := 0, phase := .breaking, timer := ⟨true, 0, false⟩ })

/-- R7, R8, Table 1-5: an accepted closure in BREAK, by the class of the break and the line's state. -/
def Obligations.ClosureEndsTheBreak : Prop :=
  ∀ (s : State) (n : Line) (w : Word), s.takesWrite (0x080 + n.val) w → w.getLsbD 15 = true →
    s.part.sup[n].loop = .opened → s.part.sup[n].phase = .breaking →
    s.part.gen.debounceCount ≤ (if s.part.sup[n].candidate = some .closed then s.part.sup[n].run + 1 else 1) →
    let v := { s.part.sup[n] with
      loop := .closed, candidate := none, run := 0, phase := .making, timer := ⟨true, 0, false⟩ }
    let state := s.part.lines[n].state
    let gives (v' : Supervisor) : Prop := exec (.senseWrite n w) s =
      .next ((s.served (0x080 + n.val) w).after (s.part.setSupervisor n
        (v'.toneField (w.getLsbD 14) (w.extractLsb' 0 4).toNat state)))
    (state = .dialing → s.part.sup[n].timer.count ≤ 8 * s.part.gen.breakMax →
      gives { v with pulses := min 11 (s.part.sup[n].pulses + 1) }) ∧
    (state = .dialing → 8 * s.part.gen.breakMax < s.part.sup[n].timer.count →
      gives { v with pulses := 0, handed := s.part.sup[n].handed ++ [.misdial] }) ∧
    (state = .idle → gives { v with pulses := 0, handed := s.part.sup[n].handed ++ [.offHook] }) ∧
    (state ≠ .dialing → state ≠ .idle → gives { v with pulses := 0 })

/-- ON_HOOK_MIN_EXPIRY and INTER_DIGIT_PAUSE_EXPIRY (R6, R9, R10, Table 1-6). -/
def Obligations.SupervisorTimersHandOnHookAndDigits : Prop :=
  ∀ (s : State) (n : Line), s.live → s.part.sup[n].timer.due = true →
    let v := s.part.sup[n]
    let steady := { v with phase := .steady, timer := ⟨false, 0, false⟩, pulses := 0 }
    let gives (c : Instr) (v' : Supervisor) : Prop := exec c s = .next (s.after (s.part.setSupervisor n v'))
    (v.phase = .breaking → gives (.onHookMinExpiry n) { v with
      phase := .resting, timer := ⟨false, 0, false⟩, pulses := 0, handed := v.handed ++ [.onHook] }) ∧
    (v.phase = .making → (v.pulses = 0 ∨ s.part.lines[n].state ≠ .dialing) → gives (.interDigitPauseExpiry n) steady) ∧
    (v.phase = .making → s.part.lines[n].state = .dialing →
      (∀ x : Digit, v.pulses = x.val → 1 ≤ v.pulses → v.pulses ≤ 9 →
        gives (.interDigitPauseExpiry n) { steady with handed := v.handed ++ [.digit x] }) ∧
      (v.pulses = 10 → gives (.interDigitPauseExpiry n) { steady with handed := v.handed ++ [.digit 0] }) ∧
      (11 ≤ v.pulses → gives (.interDigitPauseExpiry n) { steady with handed := v.handed ++ [.misdial] }))

/-! ## The line controller -/

/-- R19, R21, R44, R144, R145: what entering a state does to a line's record, to its tone position and to the report, and
that it does nothing else. -/
def Obligations.EnteringALineState : Prop :=
  ∀ (p : Part) (n : Line) (state : LineState) (cause : Option Cause) (howlerDone : Bool),
    let q := p.enterLine n state cause howlerDone
    let l := p.lines[n]
    q.lines[n].state = state ∧ q.lines[n].profile = l.profile ∧
    q.lines[n].cause = (if state = .cleardown then cause else none) ∧
    ((state = .idle ∨ state = .outOfService) →
      (q.lines[n].partner, q.lines[n].role, q.lines[n].digits, q.lines[n].route) = (none, none, [], none) ∧
      (q.lines[n].firstDigitSeen, q.lines[n].answeredAsCaller, q.lines[n].howlerDone) = (false, false, false)) ∧
    (state ≠ .idle → state ≠ .outOfService →
      (q.lines[n].partner, q.lines[n].role, q.lines[n].digits, q.lines[n].route, q.lines[n].answeredAsCaller) =
        (l.partner, l.role, l.digits, l.route, l.answeredAsCaller)) ∧
    (state = .dialing → q.lines[n].firstDigitSeen = false ∧ q.lines[n].timer = ⟨true, 0, false⟩ ∧
      q.lines[n].limit = if l.profile.hotline.isSome = true ∧ l.profile.hotlineDelay ≠ 0
        then .hotlineDelay l.profile.hotlineDelay else .firstDigit) ∧
    (state = .cleardown → q.lines[n].timer = ⟨true, 0, false⟩ ∧ q.lines[n].limit = .cleardown) ∧
    (state ≠ .idle → state ≠ .outOfService → state ≠ .dialing → q.lines[n].firstDigitSeen = l.firstDigitSeen) ∧
    (state ≠ .idle → state ≠ .outOfService → state ≠ .lockout → q.lines[n].howlerDone = l.howlerDone) ∧
    (state ≠ .dialing → state ≠ .cleardown → (state ≠ .lockout ∨ howlerDone = true) → q.lines[n].limit = l.limit) ∧
    (state = .lockout → q.lines[n].howlerDone = howlerDone) ∧
    (state = .lockout → howlerDone = false → q.lines[n].timer = ⟨true, 0, false⟩ ∧ q.lines[n].limit = .howler) ∧
    ((state = .lockout ∧ howlerDone = true) ∨ (state ≠ .dialing ∧ state ≠ .cleardown ∧ state ≠ .lockout) →
      q.lines[n].timer = ⟨false, 0, false⟩) ∧
    (∀ tone, selectedTone q.lines[n] = tone → p.tone.positions[n].tone = tone →
      q.tone.positions[n] = p.tone.positions[n]) ∧
    (selectedTone q.lines[n] = none → p.tone.positions[n].tone ≠ none →
      q.tone.positions[n] = { tone := none, step := 0, left := .count 0, phase := 0, next := none }) ∧
    (∀ t : ToneIx, selectedTone q.lines[n] = some t → p.tone.positions[n].tone ≠ some t →
      q.tone.positions[n] = {
        tone := some t, step := 0, phase := 0, next := none
        left := if p.tone.descriptors[t][0].duration = 0 then .held
          else .count (8 * p.tone.descriptors[t][0].duration) }) ∧
    (p.groupEnabled .lineState = true → p.report.queue.length < 8 → q.report.queue = p.report.queue ++ [{
      kind := .lineState, subject := .line n, stamp := p.clock.ms, snapshot := .notSnapshot
      detailA := detail2 state.item (if state = .cleardown then optItem Cause.item cause else 0xFF)
      detailB := partnerDetail q.lines[n].partner }]) ∧
    q.report = (p.hand .lineState (.line n)
      (detail2 state.item (if state = .cleardown then optItem Cause.item cause else 0xFF))
      (partnerDetail q.lines[n].partner)).report ∧ q.cmd = p.cmd ∧ q.outbox = p.outbox ∧
    (∀ m : Line, m ≠ n → q.lines[m] = p.lines[m] ∧ q.tone.positions[m] = p.tone.positions[m]) ∧
    q.sup = p.sup ∧ q.directory = p.directory ∧ q.alloc = p.alloc ∧ q.chans = p.chans ∧ q.codes = p.codes ∧
    q.link = p.link ∧ q.supply = p.supply ∧ q.ring = p.ring ∧ q.tone.descriptors = p.tone.descriptors ∧
    q.tone.cadence = p.tone.cadence ∧ q.copies = p.copies ∧ q.gen = p.gen ∧ q.clock = p.clock

/-- OFF_HOOK of a line that is not ALERTING (R15, R23): an origination in IDLE, by CLEAR-CALLS and the profile's hotline; in
HALTED, and in every other state, the event is taken and has no effect. -/
def Obligations.OffHookOriginates : Prop :=
  (∀ (s : State) (n : Line), s.live → s.part.sup[n].handed.head? = some .offHook → s.part.cmd.mode = .running →
    s.part.lines[n].state = .idle →
    let p := s.part.eventTaken n
    let gives (q : Part) : Prop := exec (.offHook n) s = .next (s.after q)
    (p.clearing = true → gives (p.enterLine n .cleardown (some .congestion))) ∧
    (p.clearing = false → p.lines[n].profile.hotline = none → gives (p.enterLine n .dialing)) ∧
    (∀ d, p.clearing = false → p.lines[n].profile.hotline = some d → p.lines[n].profile.hotlineDelay ≠ 0 →
      gives (p.enterLine n .dialing)) ∧
    (∀ d, p.clearing = false → p.lines[n].profile.hotline = some d → p.lines[n].profile.hotlineDelay = 0 →
      gives ((p.enterLine n .dialing).routeHotline n d))) ∧
  (∀ (s : State) (n : Line), s.live → s.part.sup[n].handed.head? = some .offHook →
    (s.part.cmd.mode = .halted ∨ (s.part.lines[n].state ≠ .idle ∧ s.part.lines[n].state ≠ .alerting)) →
    exec (.offHook n) s = .next (s.after (s.part.eventTaken n)))

/-- OFF_HOOK of a line in ALERTING (R29, R34, R100, R141): the answer. Both ends go to TALK, answered-as-caller follows the
role, and the ring slot or queue place and the alert limit are given up; other lines and channels keep their records. -/
def Obligations.OffHookAnswers : Prop :=
  ∀ (s : State) (n : Line), s.live → s.part.sup[n].handed.head? = some .offHook → s.part.cmd.mode = .running →
    s.part.lines[n].state = .alerting →
    (∀ m : Line, m ≠ n → s.part.lines[n].partner = some (.line m) → ∃ t, exec (.offHook n) s = .next t ∧
      t.part.lines[n].state = .talk ∧ t.part.lines[m].state = .talk ∧
      t.part.lines[n].partner = s.part.lines[n].partner ∧ t.part.lines[m].partner = s.part.lines[m].partner ∧
      (t.part.lines[n].answeredAsCaller = true ↔ s.part.lines[n].role = some .caller) ∧
      (t.part.lines[m].answeredAsCaller = true ↔ s.part.lines[m].role = some .caller) ∧
      t.part.ring = ((s.part.eventTaken n).alertCancel n).ring ∧
      (∀ x : Line, x ≠ n → x ≠ m → t.part.lines[x] = s.part.lines[x]) ∧ t.part.chans = s.part.chans ∧
      t.part.alloc = s.part.alloc ∧ t.part.link = s.part.link ∧ t.part.sup = (s.part.eventTaken n).sup ∧
      (∀ a, t.mem.read a = s.mem.read a) ∧ t.pending = s.pending) ∧
    (∀ k : Chan, s.part.lines[n].partner = some (.chan k) → s.part.lines[n].role = some .called →
      s.part.chans[k].state = .ringingIn → ∃ t, exec (.offHook n) s = .next t ∧
      t.part.lines[n].state = .talk ∧ t.part.lines[n].partner = some (.chan k) ∧
      t.part.lines[n].answeredAsCaller = false ∧ t.part.chans[k].state = .talk ∧
      t.part.chans[k].partner = s.part.chans[k].partner ∧
      t.part.ring = ((s.part.eventTaken n).alertCancel n).ring ∧
      (∀ x : Line, x ≠ n → t.part.lines[x] = s.part.lines[x]) ∧
      (∀ j : Chan, j ≠ k → t.part.chans[j] = s.part.chans[j]) ∧ t.part.sup = (s.part.eventTaken n).sup ∧
      (∀ a, t.mem.read a = s.mem.read a) ∧ t.pending = s.pending)

/-- ON_HOOK (R35, R36, Table 2-5): by the line's state, what abandonment does to the partner, the wait queue and the ring,
and that the line goes to IDLE; in IDLE, ALERTING, OUT-OF-SERVICE and in HALTED the event is taken and has no effect. With it,
every row of Table 2-5, as LINE-RESET and a profile install meet them too; of the effects of one row the model fixes the order
(log 13). -/
def Obligations.OnHookAbandonsTheCall : Prop :=
  (∀ (s : State) (n : Line), s.live → s.part.sup[n].handed.head? = some .onHook →
    let p := s.part.eventTaken n
    let state := s.part.lines[n].state
    let partner := s.part.lines[n].partner
    let gives (q : Part) : Prop := exec (.onHook n) s = .next (s.after q)
    ((s.part.cmd.mode = .halted ∨ state = .idle ∨ state = .alerting ∨ state = .outOfService) → gives p) ∧
    (s.part.cmd.mode = .running →
      ((state = .dialing ∨ state = .cleardown ∨ state = .lockout) → gives (p.enterLine n .idle)) ∧
      (state = .queued → gives ((p.setWaiter n none).enterLine n .idle)) ∧
      (∀ k, state = .trunkSetup → partner = some (.chan k) → gives ((p.clearChan k).enterLine n .idle)) ∧
      (∀ m, state = .localCalling → partner = some (.line m) →
        gives ((((p.breakLine n).alertCancel m).enterLine m .idle).enterLine n .idle)) ∧
      (∀ m, state = .talk → partner = some (.line m) →
        gives (((p.breakLine n).dropLine m .busy).enterLine n .idle)) ∧
      (∀ k, state = .talk → partner = some (.chan k) → gives ((p.clearChan k).enterLine n .idle)))) ∧
  (∀ (p : Part) (n : Line),
    let state := p.lines[n].state
    let partner := p.lines[n].partner
    ((state = .idle ∨ state = .dialing ∨ state = .cleardown ∨ state = .lockout ∨ state = .outOfService) →
      p.abandon n = p) ∧
    (state = .queued → p.abandon n = p.setWaiter n none) ∧
    (∀ k, state = .trunkSetup → partner = some (.chan k) → p.abandon n = p.clearChan k) ∧
    (∀ m, state = .localCalling → partner = some (.line m) →
      p.abandon n = ((p.breakLine n).alertCancel m).enterLine m .idle) ∧
    (∀ m, state = .alerting → partner = some (.line m) →
      p.abandon n = ((p.alertCancel n).breakLine n).dropLine m .busy) ∧
    (∀ k, state = .alerting → partner = some (.chan k) → p.abandon n = (p.alertCancel n).clearChan k) ∧
    (∀ m, state = .talk → partner = some (.line m) → p.abandon n = (p.breakLine n).dropLine m .busy) ∧
    (∀ k, state = .talk → partner = some (.chan k) → p.abandon n = p.clearChan k))

/-- DIGIT (R24, R25, R28, R31, R44): in RUNNING and DIALING first-digit seen is set, the digit is appended and the verdict of
the number translator is acted on; otherwise the event is taken and has no effect. -/
def Obligations.DigitIsAppendedAndJudged : Prop :=
  ∀ (s : State) (n : Line) (d : Digit), s.live → s.part.sup[n].handed.head? = some (.digit d) →
    let p := s.part.eventTaken n
    let gives (q : Part) : Prop := exec (.digit n d) s = .next (s.after q)
    ((s.part.cmd.mode = .halted ∨ s.part.lines[n].state ≠ .dialing) → gives p) ∧
    (s.part.cmd.mode = .running → s.part.lines[n].state = .dialing →
      let dialled := { p.lines[n] with firstDigitSeen := true, digits := p.lines[n].digits ++ [d] }
      let q := (p.setLine n dialled).judgeTone n
      ∀ (route : Option Route) (verdict : Verdict), q.lookup n dialled.digits = (route, verdict) →
        let stored := q.setLine n { dialled with route := route }
        (verdict = .needMore → gives (q.setLine n { dialled with
          route := route, timer := ⟨true, 0, false⟩, limit := .interDigit })) ∧
        (∀ c, verdict = .refuse c → gives (stored.enterLine n .cleardown (some c))) ∧
        (∀ r, verdict = .routeTrunk → route = some r →
          gives (((stored.handCallRouted n r).enterLine n .queued).enqueue n false)) ∧
        (∀ r target, verdict = .routeStationLocal target → route = some r →
          gives ((stored.handCallRouted n r).routeLocal n target)))

/-- R28: a local call by the target's state and CLEAR-CALLS. -/
def Obligations.LocalCallRingsAnIdleTarget : Prop :=
  ∀ (p : Part) (n target : Line),
    (p.clearing = true → p.routeLocal n target = p.dropLine n .congestion) ∧
    (p.clearing = false → (target = n ∨ p.lines[target].state ≠ .idle) →
      p.routeLocal n target = p.enterLine n .cleardown (some .busy)) ∧
    (p.clearing = false → target ≠ n → p.lines[target].state = .idle →
      let q := p.routeLocal n target
      q.lines[n].state = .localCalling ∧ q.lines[n].partner = some (.line target) ∧ q.lines[n].role = some .caller ∧
      q.lines[target].state = .alerting ∧ q.lines[target].partner = some (.line n) ∧
      q.lines[target].role = some .called ∧ q.ring = (p.alertRequest target).ring ∧ q.chans = p.chans ∧
      q.alloc = p.alloc ∧ q.sup = p.sup ∧ ∀ x : Line, x ≠ n → x ≠ target → q.lines[x] = p.lines[x])

/-- Table 3-3 (R49 to R52): the verdict and the route of a dialled lookup, the fields of the route of a resolved entry (R51,
with the codes of Table 10-7), and which entry a buffer resolves to: with the
directory as its commits check it (R46), a fully matched entry that no agreeing entry outranks is the resolution, and nothing
else is. -/
def Obligations.DialledLookupVerdict : Prop :=
  ∀ (p : Part) (n : Line) (digits : List Digit),
    (∀ r, p.lines[n].route = some r → digits.length < r.totalLength → p.lookup n digits = (some r, .needMore)) ∧
    (∀ r, p.lines[n].route = some r → digits.length = r.totalLength →
      p.lookup n digits = (some (p.complete n r digits).1, (p.complete n r digits).2)) ∧
    (p.lines[n].route = none →
      ((∀ d : EntryIx, p.directory[d].agrees digits = false) → p.lookup n digits = (none, .refuse .unobtainable)) ∧
      ((∃ d : EntryIx, p.directory[d].agrees digits = true) → p.resolution digits = none →
        p.lookup n digits = (none, .needMore)) ∧
      (∀ d, p.resolution digits = some d →
        let r := p.directory[d].route d
        (digits.length < r.totalLength → p.lookup n digits = (some r, .needMore)) ∧
        (digits.length = r.totalLength →
          p.lookup n digits = (some (p.complete n r digits).1, (p.complete n r digits).2)) ∧
        (r.totalLength < digits.length → p.lookup n digits = (some r, .refuse .unobtainable)) ∧
        p.directory[d].fullyMatched digits = true ∧
        ∀ e : EntryIx, p.directory[e].agrees digits = true →
          (pfxDigits p.directory[e]).length ≤ (pfxDigits p.directory[d]).length)) ∧
    (p.entriesDistinct → p.entriesInDigits → ∀ d : EntryIx, p.directory[d].fullyMatched digits = true →
      (∀ e : EntryIx, p.directory[e].agrees digits = true →
        (pfxDigits p.directory[e]).length ≤ (pfxDigits p.directory[d]).length) → p.resolution digits = some d) ∧
    (∀ (e : DirEntry) (d : EntryIx),
      let r := e.route d
      (r.entry, r.mask, r.preempt, r.totalLength, r.strip, r.forwarded, r.target) =
        (d, e.mask, e.preempt, e.totalLength.toNat, e.strip.toNat, [], none) ∧
      r.callClass = r.entryClass ∧
      (e.kind = 0 → r.kind = .deny) ∧ (e.kind = 1 → r.kind = .station) ∧ (e.kind = 2 → r.kind = .trunk) ∧
      (e.callClass = 0 → r.entryClass = .normal) ∧ (e.callClass = 1 → r.entryClass = .priority) ∧
      (e.callClass = 2 → r.entryClass = .emergency)) ∧
    (∀ e : DirEntry,
      (e.fullyMatched digits = true ↔ e.valid = true ∧ ∃ rest, digits = pfxDigits e ++ rest) ∧
      (e.agrees digits = true ↔ e.valid = true ∧
        ((∃ rest, digits = pfxDigits e ++ rest) ∨ ∃ rest, pfxDigits e = digits ++ rest)))

/-- Table 3-4 (R53 to R58): the verdict at completion; a refusal leaves the route as it stood, and a route that is completed
keeps the entry's class beside the effective class (R51, R54). The line of a station number is
the in-service line that holds it; no two hold one (R167), as every step keeps it. -/
def Obligations.CompletionVerdict : Prop :=
  ∀ (p : Part) (n : Line) (r : Route) (digits : List Digit),
    let profile := p.lines[n].profile
    let c := r.entryClass.max profile.lineClass
    let refused : Route × Verdict := (r, .refuse .unobtainable)
    let sent := digits.drop r.strip
    (r.kind = .deny → p.complete n r digits = refused) ∧
    (∀ (target : Line) (tens units : Dec), r.kind = .station → p.localSwitching = true →
      decimals (digits.drop (digits.length - 2)) = some [tens, units] →
      p.stationLine (10 * tens.val + units.val) = some target →
      p.complete n r digits = ({ r with callClass := c, target := some target }, .routeStationLocal target)) ∧
    (∀ (tens units : Dec), r.kind = .station → p.localSwitching = true →
      decimals (digits.drop (digits.length - 2)) = some [tens, units] →
      p.stationLine (10 * tens.val + units.val) = none → p.complete n r digits = refused) ∧
    (r.kind = .station → p.localSwitching = true → decimals (digits.drop (digits.length - 2)) = none →
      p.complete n r digits = refused) ∧
    (r.kind = .trunk → profile.trunkAccess = false → c ≠ .emergency → p.complete n r digits = refused) ∧
    (((r.kind = .station ∧ p.localSwitching = false) ∨
        (r.kind = .trunk ∧ (profile.trunkAccess = true ∨ c = .emergency))) →
      ((∃ d ∈ sent, 10 ≤ d.val) → p.complete n r digits = refused) ∧
      (∀ decs : List Dec, sent.map Fin.val = decs.map Fin.val →
        p.complete n r digits = ({ r with callClass := c, forwarded := decs }, .routeTrunk))) ∧
    (p.localSwitching = true ↔
      p.gen.switching = .always ∨ (p.gen.switching = .isolated ∧ p.link.state ≠ .up)) ∧
    (∀ (station : Nat) (target : Line), p.stationLine station = some target →
      p.lines[target].profile.inService = true ∧ p.lines[target].profile.station = station) ∧
    (p.stationsDistinct → ∀ target : Line, p.lines[target].profile.inService = true →
      p.stationLine p.lines[target].profile.station = some target)

/-- MISDIAL, FIRST_DIGIT_LIMIT_EXPIRY, INTER_DIGIT_LIMIT_EXPIRY and HOTLINE_DELAY_EXPIRY (R24, R26, R27): in DIALING the
first three put the line in CLEARDOWN with UNOBTAINABLE, and the last routes the hotline entry of the profile in force, or,
with no hotline there, does as the first-digit limit does. MISDIAL elsewhere has no effect. -/
def Obligations.DialingEndsOrTheHotlineIsRouted : Prop :=
  (∀ (s : State) (n : Line), s.live → s.part.sup[n].handed.head? = some .misdial →
    (s.part.cmd.mode = .running → s.part.lines[n].state = .dialing → exec (.misdial n) s =
      .next (s.after ((s.part.eventTaken n).enterLine n .cleardown (some .unobtainable)))) ∧
    ((s.part.cmd.mode = .halted ∨ s.part.lines[n].state ≠ .dialing) →
      exec (.misdial n) s = .next (s.after (s.part.eventTaken n)))) ∧
  (∀ (s : State) (n : Line), s.live → s.part.lines[n].state = .dialing → s.part.lines[n].timer.due = true →
    let p := s.part
    let refused := p.enterLine n .cleardown (some .unobtainable)
    (p.lines[n].limit = .firstDigit → exec (.firstDigitLimitExpiry n) s = .next (s.after refused)) ∧
    (p.lines[n].limit = .interDigit → exec (.interDigitLimitExpiry n) s = .next (s.after refused)) ∧
    (∀ seconds, p.lines[n].limit = .hotlineDelay seconds →
      (p.lines[n].profile.hotline = none → exec (.hotlineDelayExpiry n) s = .next (s.after refused)) ∧
      (∀ d, p.lines[n].profile.hotline = some d →
        exec (.hotlineDelayExpiry n) s = .next (s.after (p.routeHotline n d))))) ∧
  (∀ (p : Part) (n : Line) (d : EntryIx) (route : Option Route) (verdict : Verdict),
    let q := p.setLine n { p.lines[n] with digits := pfxDigits p.directory[d] }
    q.hotlineLookup n d = (route, verdict) →
    let stored := q.setLine n { q.lines[n] with route := route }
    ((p.directory[d].valid = false ∨ p.directory[d].pfxLength.toNat < p.directory[d].totalLength.toNat) →
      verdict = .refuse .unobtainable) ∧
    (p.directory[d].valid = true → p.directory[d].totalLength.toNat ≤ p.directory[d].pfxLength.toNat →
      let answer := q.complete n (p.directory[d].route d) (pfxDigits p.directory[d])
      route = some answer.1 ∧ verdict = answer.2) ∧
    (∀ c, verdict = .refuse c → p.routeHotline n d = stored.enterLine n .cleardown (some c)) ∧
    (∀ r, verdict = .routeTrunk → route = some r →
      p.routeHotline n d = ((stored.handCallRouted n r).enterLine n .queued).enqueue n false) ∧
    (∀ r target, verdict = .routeStationLocal target → route = some r →
      p.routeHotline n d = (stored.handCallRouted n r).routeLocal n target))

/-- CLEARDOWN_LIMIT_EXPIRY and HOWLER_TIME_EXPIRY (R38). Setting howler done hands no record (R44). -/
def Obligations.CleardownLeadsToLockoutAndSilence : Prop :=
  ∀ (s : State) (n : Line), s.live → s.part.lines[n].timer.due = true →
    (s.part.lines[n].state = .cleardown →
      exec (.cleardownLimitExpiry n) s = .next (s.after (s.part.enterLine n .lockout none false))) ∧
    (s.part.lines[n].state = .lockout → ∃ t, exec (.howlerTimeExpiry n) s = .next t ∧
      t = s.after ((s.part.setLine n { s.part.lines[n] with
        howlerDone := true, timer := ⟨false, 0, false⟩ }).judgeTone n) ∧
      t.part.lines[n].state = .lockout ∧ t.part.drivePattern n = 4 ∧ t.part.listenSource n = 0x140 ∧
      (∀ m : Line, m ≠ n → t.part.lines[m] = s.part.lines[m]) ∧ t.part.chans = s.part.chans ∧
      (∀ a, t.mem.read a = s.mem.read a))

/-- START_ORIGINATION, CLEAR_CALLS_LINE_TEARDOWN and CLEAR_CALLS_CHANNEL_CLEAR (R42, R43, R101, R176): a line whose
event after START stands is taken as having taken OFF-HOOK when it is IDLE with its debounced loop CLOSED, by R23; any other line
stays as it is (log 16). CLEAR-CALLS takes each line and channel out of its set, whatever it finds; a line with a call is torn
down with CONGESTION, and the channel is told to clear. -/
def Obligations.StartAndClearCallsTakeTheirLines : Prop :=
  (∀ (s : State) (n : Line), s.live → n ∈ s.part.cmd.starting → s.part.cmd.mode = .running →
    let p := { s.part with cmd := { s.part.cmd with starting := s.part.cmd.starting.filter (· != n) } }
    let gives (q : Part) : Prop := exec (.startOrigination n) s = .next (s.after q)
    ((p.lines[n].state ≠ .idle ∨ p.sup[n].loop = .opened) → gives p) ∧
    (p.lines[n].state = .idle → p.sup[n].loop = .closed →
      (p.clearing = true → gives (p.enterLine n .cleardown (some .congestion))) ∧
      (p.clearing = false → (p.lines[n].profile.hotline = none ∨ p.lines[n].profile.hotlineDelay ≠ 0) →
        gives (p.enterLine n .dialing)) ∧
      (∀ d, p.clearing = false → p.lines[n].profile.hotline = some d → p.lines[n].profile.hotlineDelay = 0 →
        gives ((p.enterLine n .dialing).routeHotline n d)))) ∧
  (∀ (s : State) (lines : List Line) (chans : List Chan), s.live → s.part.cmd.long = .clearCalls lines chans →
    (∀ n ∈ lines,
      let p := { s.part with cmd := { s.part.cmd with long := .clearCalls (lines.filter (· != n)) chans } }
      let state := p.lines[n].state
      let gives (q : Part) : Prop := exec (.clearCallsLineTeardown n) s = .next (s.after q)
      ((state = .idle ∨ state = .cleardown ∨ state = .lockout ∨ state = .outOfService) → gives p) ∧
      ((state = .dialing ∨ state = .queued ∨ state = .trunkSetup ∨ state = .localCalling ∨ state = .alerting ∨
        state = .talk) → gives (p.tearDown n .congestion))) ∧
    (∀ k ∈ chans,
      let p := { s.part with cmd := { s.part.cmd with long := .clearCalls lines (chans.filter (· != k)) } }
      exec (.clearCallsChannelClear k) s = .next (s.after (p.clearChan k))))

/-- R22, R37 and R43: breaking a partnership takes it from both records, and a teardown sets a line's state by its state and
debounced loop, its partner's in the same event. That of two partner lines the one named by the event is set first, and that a
channel partner is told to clear before the line is set, is the model's choice (log 13). -/
def Obligations.TeardownByStateAndLoop : Prop :=
  (∀ (p : Part) (n m : Line), p.lines[n].partner = some (.line m) →
    (p.breakLine n).lines[n].partner = none ∧ (p.breakLine n).lines[m].partner = none ∧
    (p.breakLine n).lines[n].role = none ∧ (p.breakLine n).lines[m].role = none ∧
    ∀ x : Line, x ≠ n → x ≠ m → (p.breakLine n).lines[x] = p.lines[x]) ∧
  (∀ (p : Part) (n : Line) (k : Chan), p.lines[n].partner = some (.chan k) →
    (p.breakLine n).lines[n].partner = none ∧ (p.breakLine n).lines[n].role = none ∧
    (p.breakLine n).chans[k].partner = none) ∧
  (∀ (p : Part) (n : Line) (k : Chan), p.chans[k].partner = some n →
    (p.breakChan k).lines[n].partner = none ∧ (p.breakChan k).lines[n].role = none ∧
    (p.breakChan k).chans[k].partner = none) ∧
  (∀ (p : Part) (n : Line) (cause : Cause),
    let state := p.lines[n].state
    let byLoop (q : Part) : Part :=
      if p.sup[n].loop = .closed then q.enterLine n .cleardown (some cause) else q.enterLine n .idle
    (state = .alerting → p.dropLine n cause = (p.alertCancel n).enterLine n .idle) ∧
    (state = .queued → p.dropLine n cause = byLoop (p.setWaiter n none)) ∧
    ((state = .dialing ∨ state = .trunkSetup ∨ state = .localCalling ∨ state = .talk) →
      p.dropLine n cause = byLoop p) ∧
    ((state = .idle ∨ state = .cleardown ∨ state = .lockout ∨ state = .outOfService) → p.dropLine n cause = p) ∧
    (p.lines[n].partner = none → p.tearDown n cause = p.dropLine n cause) ∧
    (∀ m, p.lines[n].partner = some (.line m) →
      p.tearDown n cause = ((p.breakLine n).dropLine n cause).dropLine m cause) ∧
    (∀ k, p.lines[n].partner = some (.chan k) → p.tearDown n cause = (p.clearChan k).dropLine n cause))

/-! ## The channel allocator -/

/-- R62, R65, R66 and R67: an enqueue (`glare` false) or a re-entry (`glare` true) of a line with a route is refused under
CLEAR-CALLS, and an enqueue of class NORMAL under the supply warning with the link not UP; otherwise it makes an entry, which
is granted the lowest-numbered IDLE channel of its mask or else raises demand and, if it may, preempts. -/
def Obligations.EnqueueMakesAnEntryOrIsRefused : Prop :=
  (∀ (p : Part) (n : Line) (r : Route) (glare : Bool), p.lines[n].route = some r →
    let entry : WaitEntry := {
      callClass := r.callClass, mask := r.mask, preempt := r.preempt, outstanding := none, glare := glare
      queueTimer := ⟨true, 0, false⟩
      unusableTimer := if p.maskUsable r.mask then ⟨false, 0, false⟩ else ⟨true, 0, false⟩ }
    let q := p.setWaiter n (some entry)
    (p.clearing = true → p.enqueue n glare = p.dropLine n .congestion) ∧
    (p.clearing = false → glare = false → p.supply.warning = true → r.callClass = .normal → p.link.state ≠ .up →
      p.enqueue n glare = p.dropLine n .congestion) ∧
    (p.clearing = false → (glare = true ∨ p.supply.warning = false ∨ r.callClass ≠ .normal ∨ p.link.state = .up) →
      (∀ k : Chan, maskHas r.mask k = true → p.chans[k].state = .idle →
        (∀ j : Chan, j < k → maskHas r.mask j = true → p.chans[j].state ≠ .idle) → p.enqueue n glare = q.grant k n) ∧
      ((∀ k : Chan, maskHas r.mask k = true → p.chans[k].state ≠ .idle) →
        let d := if p.link.state ≠ .up ∧ (r.callClass ≠ .normal ∨ p.supply.warning = false) then q.demand else q
        p.enqueue n glare = if r.preempt = true ∧ r.callClass = .emergency then d.preempt n else d))) ∧
  (∀ (p : Part) (mask : BitVec 16), p.maskUsable mask = true ↔ ∃ k : Chan, maskHas mask k = true ∧
    p.chans[k].config.enabled = true ∧ p.chans[k].draining = false ∧ p.link.state = .up ∧
    p.chans[k].state ≠ .offline ∧ p.chans[k].state ≠ .fault ∧ p.chans[k].state ≠ .blockedFar) ∧
  (∀ p : Part, p.demand = if p.cmd.mode = .running ∧ p.gen.policy ≠ .off ∧ p.link.state = .off
    then p.enterLink .starting (some .localSide) .demand else p)

/-- R64, R71, R91: what a grant of an IDLE channel to the entry of a line does, and that it does nothing else. -/
def Obligations.GrantSeizesTheChannel : Prop :=
  ∀ (p : Part) (k : Chan) (n : Line) (e : WaitEntry), p.alloc.waiters[n] = some e → p.chans[k].state = .idle →
    let q := p.grant k n
    q.alloc.waiters[n] = none ∧ q.alloc.occupancy = p.alloc.occupancy ++ [k] ∧
    (∀ m : Line, m ≠ n → q.alloc.waiters[m] = (p.alloc.waiters[m]).map fun f => f.judged (p.maskUsable f.mask)) ∧
    q.alloc.pointers[k].pointer e.callClass = some n ∧
    (∀ c, c ≠ e.callClass → q.alloc.pointers[k].pointer c = p.alloc.pointers[k].pointer c) ∧
    (∀ j : Chan, j ≠ k → q.alloc.pointers[j] = p.alloc.pointers[j]) ∧
    q.lines[n] = { p.lines[n] with
      state := .trunkSetup, partner := some (.chan k), role := some .caller, cause := none, timer := ⟨false, 0, false⟩ } ∧
    q.chans[k] = { p.chans[k] with
      state := .seizing, partner := some n, direction := some .out, callClass := some e.callClass, sendPosition := 0
      sendPhase := .digit, reject := none, timer := ⟨true, 0, false⟩
      sendList := match p.lines[n].route with | some r => r.forwarded | none => [] } ∧
    q.link = { p.link with silence := ⟨false, 0, false⟩ } ∧
    q.report = ((p.hand .lineState (.line n) (detail2 LineState.trunkSetup.item 0xFF)
      (partnerDetail (some (.chan k)))).hand .chanState (.chan k)
        (detail3 ChanState.seizing.item Direction.out.item4 e.callClass.item4) (lineDetail (some n))).report ∧
    q.tone = { p.tone with positions := q.tone.positions } ∧
    (∀ m : Line, m ≠ n → q.tone.positions[m] = p.tone.positions[m]) ∧
    (p.tone.positions[n].tone = none → q.tone.positions[n] = p.tone.positions[n]) ∧
    (p.tone.positions[n].tone ≠ none →
      q.tone.positions[n] = { tone := none, step := 0, left := .count 0, phase := 0, next := none }) ∧
    q.cmd = p.cmd ∧ q.outbox = p.outbox ∧
    (p.groupEnabled .lineState = true → p.groupEnabled .chanState = true → p.report.queue.length < 7 →
      q.report.queue.map Record.kind = p.report.queue.map Record.kind ++ [.lineState, .chanState]) ∧
    (∀ m : Line, m ≠ n → q.lines[m] = p.lines[m]) ∧ (∀ j : Chan, j ≠ k → q.chans[j] = p.chans[j]) ∧
    q.sup = p.sup ∧ q.directory = p.directory ∧ q.codes = p.codes ∧ q.supply = p.supply ∧ q.ring = p.ring ∧
    q.copies = p.copies ∧ q.gen = p.gen ∧ q.clock = p.clock

/-- R69, with the rotation of R64: the waiter chosen for a free channel has the highest class among the entries whose mask
includes the channel; among those of that class an entry with glare precedence comes first, the lowest-numbered line of
them; and without one the line that stands first in the rotation from the channel's pointer for the class. -/
def Obligations.WaiterIsChosenByClassGlareAndRotation : Prop :=
  ∀ (p : Part) (k : Chan),
    let waits (n : Line) (e : WaitEntry) : Prop := p.alloc.waiters[n] = some e ∧ maskHas e.mask k = true
    let turn (c : CallClass) (n : Line) : Nat :=
      match p.alloc.pointers[k].pointer c with
      | none => n.val
      | some last => (n.val + 47 - last.val) % 48
    (p.chosen k = none ↔ ∀ n e, ¬ waits n e) ∧
    (∀ n, p.chosen k = some n → ∃ e, waits n e ∧
      (∀ m f, waits m f → f.callClass.rank ≤ e.callClass.rank) ∧
      (e.glare = true → ∀ m f, waits m f → f.callClass = e.callClass → f.glare = true → n ≤ m) ∧
      (e.glare = false → ∀ m f, waits m f → f.callClass = e.callClass →
        f.glare = false ∧ turn e.callClass n ≤ turn e.callClass m))

/-- R68, R77 to R79: the victim of a preemption attempt is the youngest qualifying call of the occupancy list, and the attempt
reports it, records it, clears its channel by R101 (on to IDLE, with what that brings about, to RELEASING, or no further, by
the far code) and then tears its line down with PREEMPTED (in this order: log 13). A channel that becomes free is granted to
the waiter chosen, and while CLEAR-CALLS is in progress to none (R76; log 23). A channel that has entered a state without a call
is offered as channel free when that state is IDLE, and each entry that waited on it as its victim makes a new attempt, in
ascending order of the lines (log 13). -/
def Obligations.PreemptionTakesTheYoungestNormalCall : Prop :=
  (∀ (p : Part) (e : WaitEntry),
    let qualifies (k : Chan) : Prop := maskHas e.mask k = true ∧ p.chans[k].callClass = some .normal ∧
      p.chans[k].draining = false ∧ (p.chans[k].state = .seizing ∨ p.chans[k].state = .sending ∨
        p.chans[k].state = .awaitAnswer ∨ p.chans[k].state = .talk ∨ p.chans[k].state = .incoming ∨
        p.chans[k].state = .ringingIn)
    ((∀ k ∈ p.alloc.occupancy, ¬ qualifies k) → p.victim e = none) ∧
    (∀ (older younger : List Chan) (k : Chan), p.alloc.occupancy = older ++ k :: younger → qualifies k →
      (∀ j ∈ younger, ¬ qualifies j) → p.victim e = some k)) ∧
  (∀ (p : Part) (n : Line) (e : WaitEntry), p.alloc.waiters[n] = some e →
    (p.victim e = none → p.preempt n = p) ∧
    (∀ k, p.victim e = some k →
      let told := (p.hand .preempted (.chan k) (detail1 n.val) (lineDetail p.chans[k].partner)).setWaiter n
        (some { e with outstanding := some k })
      let cleared := (told.breakChan k).enterChan k .clearing
      let q := if p.chans[k].accepted = some SignalCode.idle.toCode then (cleared.enterChan k .idle).leave k
        else if p.chans[k].accepted = some SignalCode.clear.toCode then cleared.enterChan k .releasing else cleared
      p.preempt n = match p.chans[k].partner with | none => q | some m => q.dropLine m .preempted)) ∧
  (∀ (p : Part) (k : Chan),
    ((p.clearing = true ∨ p.chosen k = none) → p.channelFree k = p) ∧
    (∀ n, p.clearing = false → p.chosen k = some n → p.channelFree k = p.grant k n)) ∧
  (∀ (p : Part) (k : Chan),
    let retried (q : Part) (n : Line) : Part :=
      match q.alloc.waiters[n] with
      | some e =>
        if e.outstanding = some k then (q.setWaiter n (some { e with outstanding := none })).preempt n else q
      | none => q
    p.leave k = (List.finRange 48).foldl retried (if p.chans[k].state = .idle then p.channelFree k else p) ∧
    ((∀ (n : Line) (e : WaitEntry), p.alloc.waiters[n] = some e → e.outstanding ≠ some k) →
      p.leave k = if p.chans[k].state = .idle then p.channelFree k else p))

/-- QUEUE_TIMER_EXPIRY and UNUSABLE_TIMER_EXPIRY (R72 to R74): the entry leaves the queue, QUEUE-TIMEOUT names the limit and
the class, and the line is torn down with CONGESTION; with no entry the expiry is not taken. -/
def Obligations.EntryTimersEndTheWait : Prop :=
  (∀ (s : State) (n : Line) (e : WaitEntry), s.live → s.part.alloc.waiters[n] = some e →
    let gives (c : Instr) (limit : Word) : Prop := exec c s = .next (s.after
      (((s.part.setWaiter n none).hand .queueTimeout (.line n) limit (detail1 e.callClass.item.toNat)).dropLine n
        .congestion))
    (e.queueTimer.due = true → gives (.queueTimerExpiry n) 0) ∧
    (e.unusableTimer.due = true → gives (.unusableTimerExpiry n) 1)) ∧
  (∀ (s : State) (n : Line), s.part.alloc.waiters[n] = none →
    exec (.queueTimerExpiry n) s = .next s ∧ exec (.unusableTimerExpiry n) s = .next s)

/-! ## The channel signalling unit -/

/-- R63, R73, R83 to R85, R113, R121: what entering a state does to a channel's record, the occupancy list, the entries'
unusable timers, the silence timer and the report; and R101: what telling a channel to clear does. -/
def Obligations.EnteringAndClearingAChannel : Prop :=
  (∀ (p : Part) (k : Chan) (wanted : ChanState) (reject : Option RejectCode),
    let q := p.enterChan k wanted reject
    let c := p.chans[k]
    let d := q.chans[k]
    let state : ChanState :=
      if c.draining = true ∧ (wanted = .idle ∨ wanted = .fault ∨ wanted = .blockedFar) then .offline else wanted
    let rests : Prop := state = .idle ∨ state = .offline ∨ state = .fault ∨ state = .blockedFar
    d.state = state ∧ d.config = c.config ∧ d.linkChanges = c.linkChanges ∧
    d.reject = (if state = .rejecting then reject else none) ∧
    (rests → (d.direction, d.callClass, d.partner, d.sendList, d.received) = (none, none, none, [], [])) ∧
    (¬ rests → (d.direction, d.callClass, d.partner, d.sendList, d.received, d.sendPosition) =
      (c.direction, c.callClass, c.partner, c.sendList, c.received, c.sendPosition)) ∧
    (state = .sending → d.sendPhase = .digit) ∧
    (state = .offline → (d.accepted, d.candidate, d.run, d.draining, d.stall) =
      (none, none, 0, false, ⟨false, 0, false⟩)) ∧
    (state ≠ .offline → (d.accepted, d.candidate, d.run, d.draining) = (c.accepted, c.candidate, c.run, c.draining) ∧
      d.stall = if c.state = .offline ∧ c.config.stallWatch = true then ⟨true, 0, false⟩ else c.stall) ∧
    ((state = .seizing ∨ state = .sending ∨ state = .incoming ∨ state = .rejecting ∨ state = .clearing ∨
      state = .releasing) → d.timer = ⟨true, 0, false⟩) ∧
    (state = .fault → d.timer =
      if c.accepted = some SignalCode.idle.toCode then ⟨true, 0, false⟩ else ⟨false, 0, false⟩) ∧
    ((state = .offline ∨ state = .idle ∨ state = .awaitAnswer ∨ state = .ringingIn ∨ state = .talk ∨
      state = .blockedFar) → d.timer = ⟨false, 0, false⟩) ∧
    (rests → q.alloc.occupancy = p.alloc.occupancy.filter (· != k)) ∧
    (c.state = .idle → (state = .seizing ∨ state = .incoming) → q.alloc.occupancy = p.alloc.occupancy ++ [k]) ∧
    (¬ rests → (c.state ≠ .idle ∨ (state ≠ .seizing ∧ state ≠ .incoming)) → q.alloc.occupancy = p.alloc.occupancy) ∧
    (∀ n : Line, q.alloc.waiters[n] = (p.alloc.waiters[n]).map fun e => { e with
      unusableTimer := if q.maskUsable e.mask = true then ⟨false, 0, false⟩
        else if e.unusableTimer.running = true then e.unusableTimer else ⟨true, 0, false⟩ }) ∧
    q.link = { p.link with silence := q.link.silence } ∧
    (q.silenceHolds = false → q.link.silence = ⟨false, 0, false⟩) ∧
    (q.silenceHolds = true →
      (((c.state = .idle ∧ rests ∧ state ≠ .idle) ∨ p.link.silence.running = false) →
        q.link.silence = ⟨true, 0, false⟩) ∧
      (¬ (c.state = .idle ∧ rests ∧ state ≠ .idle) → p.link.silence.running = true →
        q.link.silence = p.link.silence)) ∧
    (p.groupEnabled .chanState = true → p.report.queue.length < 8 → q.report.queue = p.report.queue ++ [{
      kind := .chanState, subject := .chan k, stamp := p.clock.ms, snapshot := .notSnapshot
      detailA := detail3 state.item (optItem4 Direction.item4 d.direction) (optItem4 CallClass.item4 d.callClass)
      detailB := lineDetail d.partner }]) ∧
    q.report = (p.hand .chanState (.chan k)
      (detail3 state.item (optItem4 Direction.item4 d.direction) (optItem4 CallClass.item4 d.callClass))
      (lineDetail d.partner)).report ∧ q.cmd = p.cmd ∧ q.outbox = p.outbox ∧
    (∀ j : Chan, j ≠ k → q.chans[j] = p.chans[j]) ∧ q.alloc.pointers = p.alloc.pointers ∧ q.sup = p.sup ∧
    q.lines = p.lines ∧ q.directory = p.directory ∧ q.codes = p.codes ∧ q.supply = p.supply ∧ q.ring = p.ring ∧
    q.tone = p.tone ∧ q.copies = p.copies ∧ q.gen = p.gen ∧ q.clock = p.clock) ∧
  (∀ (p : Part) (k : Chan),
    let c := p.chans[k]
    let told := (p.breakChan k).enterChan k .clearing
    let carries : Prop := c.state = .seizing ∨ c.state = .sending ∨ c.state = .awaitAnswer ∨ c.state = .incoming ∨
      c.state = .ringingIn ∨ c.state = .talk
    (¬ carries → p.clearChan k = p) ∧
    (carries → c.accepted = some SignalCode.idle.toCode → p.clearChan k = (told.enterChan k .idle).leave k) ∧
    (carries → c.accepted = some SignalCode.clear.toCode → p.clearChan k = told.enterChan k .releasing) ∧
    (carries → c.accepted ≠ some SignalCode.idle.toCode → c.accepted ≠ some SignalCode.clear.toCode →
      p.clearChan k = told))

/-- SIGNAL_IN_WRITE (R87, R89): the run of a matched code, the break of a run by an unrecognised value, the restart of the
stall timer, and the acceptance. The installed codes hold distinct values (R86), as every step keeps them. -/
def Obligations.SignalInRunsToAcceptance : Prop :=
  ∀ (s : State) (k : Chan) (w : Word), s.takesWrite (0x120 + k.val) w → s.part.codesDistinct →
    let c := s.part.chans[k]
    let stall : Timer := if c.config.stallWatch then ⟨true, 0, false⟩ else c.stall
    let gives (q : Part) : Prop := exec (.signalInWrite k w) s = .next ((s.served (0x120 + k.val) w).after q)
    (c.state = .offline → gives s.part) ∧
    (c.state ≠ .offline → (∀ x : Code, s.part.codes[x] ≠ some w) →
      gives (s.part.setChan k { c with stall := stall, candidate := none, run := 0 })) ∧
    (∀ x : Code, c.state ≠ .offline → s.part.codes[x] = some w →
      let run := if c.candidate = some x then min 16 (c.run + 1) else 1
      ((run < s.part.gen.persistence ∨ c.accepted = some x) →
        gives (s.part.setChan k { c with stall := stall, candidate := some x, run := run })) ∧
      (s.part.gen.persistence ≤ run → c.accepted ≠ some x →
        gives ((s.part.setChan k { c with stall := stall, candidate := some x, run := run, accepted := some x }).accept k
          x)))

/-- Table 5-7 for the codes that set calls up: SEIZE, PROCEED, END, RINGING, ANSWER, BUSY, VACANT and the DIGIT codes (R92,
R93, R95 to R98, R107). A code where the table allows none is reported and changes nothing else. The line of a station number is
the in-service line that holds it (R98); no two hold one (R167), as every step keeps it. -/
def Obligations.AcceptedCodesThatSetUpCalls : Prop :=
  ∀ (p : Part) (k : Chan), p.chans[k].state ≠ .fault → p.chans[k].state ≠ .offline →
    let c := p.chans[k]
    let state := c.state
    let error (x : Code) : Part := p.hand .protocolError (.chan k) (detail1 state.item.toNat) (detail1 x.val)
    let seized : ChanRecord := { c with direction := some .inward, callClass := some .normal, received := [] }
    let enters (q : Part) : Part :=
      if p.clearing = true then q.enterChan k .rejecting (some .busy) else q.enterChan k .incoming
    (state = .idle → p.accept k 1 = enters (p.setChan k seized)) ∧
    (∀ n, state = .seizing → c.partner = some n → p.accept k 1 =
      (enters ((p.breakChan k).setChan k { seized with partner := none })).glareReturn n) ∧
    (state = .incoming → p.accept k 1 = p) ∧
    (state ≠ .idle → state ≠ .seizing → state ≠ .incoming → p.accept k 1 = error 1) ∧
    (state = .seizing → p.accept k 2 = p.enterChan k (if c.sendList = [] then .awaitAnswer else .sending)) ∧
    (state ≠ .seizing → p.accept k 2 = error 2) ∧
    (state = .incoming → p.clearing = true → p.accept k 3 = p.enterChan k .rejecting (some .busy)) ∧
    (state = .incoming → p.clearing = false →
      (c.received.length ≠ 2 → p.accept k 3 = p.enterChan k .rejecting (some .vacant)) ∧
      (∀ tens units, c.received = [tens, units] → p.stationLine (10 * tens.val + units.val) = none →
        p.accept k 3 = p.enterChan k .rejecting (some .vacant)) ∧
      (∀ tens units n, c.received = [tens, units] → p.stationLine (10 * tens.val + units.val) = some n →
        (p.lines[n].state ≠ .idle → p.accept k 3 = p.enterChan k .rejecting (some .busy)) ∧
        (p.lines[n].state = .idle → p.accept k 3 =
          (((((p.setPartner n (some (.chan k)) (some .called)).setChanPartner k (some n)).enterLine n
            .alerting).alertRequest n).enterChan k .ringingIn)))) ∧
    (state ≠ .incoming → p.accept k 3 = error 3) ∧
    (state = .awaitAnswer → p.accept k 4 = p) ∧ (state ≠ .awaitAnswer → p.accept k 4 = error 4) ∧
    (∀ n, state = .awaitAnswer → c.partner = some n → p.lines[n].state = .trunkSetup → p.accept k 5 =
      ((p.enterChan k .talk).setLine n { p.lines[n] with answeredAsCaller := true }).enterLine n .talk) ∧
    (state ≠ .awaitAnswer → p.accept k 5 = error 5) ∧
    (∀ n, (state = .sending ∨ state = .awaitAnswer) → c.partner = some n →
      p.accept k 7 = ((p.breakChan k).enterChan k .clearing).dropLine n .busy ∧
      p.accept k 8 = ((p.breakChan k).enterChan k .clearing).dropLine n .unobtainable) ∧
    (state ≠ .sending → state ≠ .awaitAnswer → p.accept k 7 = error 7 ∧ p.accept k 8 = error 8) ∧
    (∀ (d : Dec) (x : Code), x.val = 10 + d.val →
      (state = .incoming → p.accept k x =
        if c.received.length < 4 then p.setChan k { c with received := c.received ++ [d] } else p) ∧
      (state ≠ .incoming → p.accept k x = error x)) ∧
    (∀ (station : Nat) (n : Line), p.stationLine station = some n →
      p.lines[n].profile.inService = true ∧ p.lines[n].profile.station = station) ∧
    (p.stationsDistinct → ∀ n : Line, p.lines[n].profile.inService = true →
      p.stationLine p.lines[n].profile.station = some n)

/-- Table 5-7 for the codes that release and block, IDLE, CLEAR and BLOCKED, and for every code in FAULT (R102, R103, R105 to
R107). BLOCKED accepted in BLOCKED-FAR has no effect, the model's reading of the dash in its cell (log 10). -/
def Obligations.AcceptedCodesThatRelease : Prop :=
  ∀ (p : Part) (k : Chan),
    let c := p.chans[k]
    let state := c.state
    let error (x : Code) : Part := p.hand .protocolError (.chan k) (detail1 state.item.toNat) (detail1 x.val)
    let dropped (q : Part) : Part :=
      match c.partner with
      | none => q
      | some n => (q.breakChan k).dropLine n .congestion
    ((state = .idle ∨ state = .seizing) → p.accept k 0 = p) ∧
    ((state = .clearing ∨ state = .releasing ∨ state = .blockedFar) → p.accept k 0 = (p.enterChan k .idle).leave k) ∧
    ((state = .sending ∨ state = .awaitAnswer ∨ state = .incoming ∨ state = .ringingIn ∨ state = .rejecting ∨
      state = .talk) → p.accept k 0 = ((dropped (error 0)).enterChan k .idle).leave k) ∧
    ((state = .seizing ∨ state = .sending ∨ state = .awaitAnswer ∨ state = .incoming ∨ state = .ringingIn ∨
      state = .rejecting ∨ state = .talk ∨ state = .clearing) → p.accept k 6 = match c.partner with
        | none => p.enterChan k .releasing
        | some n => ((p.breakChan k).enterChan k .releasing).dropLine n .busy) ∧
    ((state = .idle ∨ state = .releasing ∨ state = .blockedFar) → p.accept k 6 = error 6) ∧
    (state ≠ .offline → state ≠ .fault → state ≠ .blockedFar →
      p.accept k 9 = ((dropped p).enterChan k .blockedFar).leave k) ∧
    (state = .blockedFar → p.accept k 9 = p) ∧
    (state = .fault → p.accept k 0 = p.setChan k { c with timer := ⟨true, 0, false⟩ }) ∧
    (∀ x : Code, state = .fault → x ≠ 0 → p.accept k x = p.setChan k { c with timer := ⟨false, 0, false⟩ }) ∧
    (∀ st : ChanState, p.restChan k st = (p.enterChan k st).leave k) ∧
    ((∀ (n : Line) (e : WaitEntry), p.alloc.waiters[n] = some e → e.outstanding ≠ some k) →
      (state ≠ .idle → p.leave k = p) ∧ (state = .idle → p.clearing = true → p.leave k = p))

/-- SEIZE_LIMIT_EXPIRY, DIGIT_HOLD_EXPIRY, DIGIT_GAP_EXPIRY, INCOMING_DIGIT_LIMIT_EXPIRY, RELEASE_GUARD_EXPIRY and
RECOVERY_TIME_EXPIRY (R92, R94, R99, R104, R106). The details that Table 11-1 leaves out are all ones (log 11). -/
def Obligations.ChannelTimersExpire : Prop :=
  ∀ (s : State) (k : Chan), s.live → s.part.chans[k].timer.due = true →
    let p := s.part
    let c := p.chans[k]
    let gives (i : Instr) (q : Part) : Prop := exec i s = .next (s.after q)
    (∀ n, c.state = .seizing → c.partner = some n → gives (.seizeLimitExpiry k)
      (((((p.hand .chanFault (.chan k) 0 0xFFFF).breakChan k).enterChan k .fault).leave k).glareReturn n)) ∧
    (c.state = .sending → c.sendPhase = .digit → gives (.digitHoldExpiry k)
      (p.setChan k { c with sendPhase := .gap, timer := ⟨true, 0, false⟩ })) ∧
    (c.state = .sending → c.sendPhase = .gap →
      (c.sendPosition + 1 < c.sendList.length → gives (.digitGapExpiry k) (p.setChan k { c with
        sendPosition := c.sendPosition + 1, sendPhase := .digit, timer := ⟨true, 0, false⟩ })) ∧
      (c.sendList.length ≤ c.sendPosition + 1 → gives (.digitGapExpiry k) (p.enterChan k .awaitAnswer))) ∧
    (c.state = .incoming → gives (.incomingDigitLimitExpiry k) (p.enterChan k .rejecting (some .vacant))) ∧
    ((c.state = .clearing ∨ c.state = .releasing ∨ c.state = .rejecting) → gives (.releaseGuardExpiry k)
      (((p.hand .chanFault (.chan k) 1 0xFFFF).enterChan k .fault).leave k)) ∧
    (c.state = .fault → gives (.recoveryTimeExpiry k) ((p.enterChan k .idle).leave k))

/-- STALL_EXPIRY, CHANNEL_LINK_UP and CHANNEL_LINK_DOWN (R89, R109, R110). A link change stands handed to a channel from the
link's event until the channel takes it (log 1). The detail that Table 11-1 leaves out is all ones (log 11). -/
def Obligations.StallAndLinkChangesOfAChannel : Prop :=
  (∀ (s : State) (k : Chan), s.live → s.part.chans[k].state ≠ .offline → s.part.chans[k].stall.due = true →
    let c := s.part.chans[k]
    let p := s.part.hand .chanStall (.chan k) (detail1 c.state.item.toNat) 0xFFFF
    let silent := { c with accepted := none, candidate := none, run := 0, stall := ⟨false, 0, false⟩ }
    let gives (q : Part) : Prop := exec (.stallExpiry k) s = .next (s.after q)
    (c.state = .fault → gives (p.setChan k { silent with timer := ⟨false, 0, false⟩ })) ∧
    (c.state ≠ .fault → c.partner = none → gives (((p.setChan k silent).enterChan k .fault).leave k)) ∧
    (∀ n, c.state ≠ .fault → c.partner = some n →
      gives ((((((p.setChan k silent).breakChan k).dropLine n .congestion).enterChan k .fault)).leave k))) ∧
  (∀ (s : State) (k : Chan) (change : LinkChange) (rest : List LinkChange), s.live →
    s.part.chans[k].linkChanges = change :: rest →
    let c := { s.part.chans[k] with linkChanges := rest }
    let p := s.part.setChan k c
    let up (q : Part) : Prop := change = .up → exec (.channelLinkUp k) s = .next (s.after q)
    let down (q : Part) : Prop := change = .down → exec (.channelLinkDown k) s = .next (s.after q)
    (c.state = .offline → c.config.enabled = true → up ((p.enterChan k .idle).leave k)) ∧
    ((c.state ≠ .offline ∨ c.config.enabled = false) → up p) ∧
    (c.state = .offline → down p) ∧
    (∀ n, c.state = .seizing → c.partner = some n →
      down ((((p.breakChan k).enterChan k .offline).leave k).glareReturn n)) ∧
    (∀ n, c.state ≠ .offline → c.state ≠ .seizing → c.partner = some n →
      down ((((p.breakChan k).enterChan k .offline).leave k).dropLine n .congestion)) ∧
    (c.state ≠ .offline → c.partner = none → down ((p.enterChan k .offline).leave k)))

/-! ## The tables -/

/-- SIGNAL_CODE_INSTALL (R86): the value is installed, or, where another installed code holds it, refused with DUPLICATE;
nothing else changes. -/
def Obligations.CodeInstallRefusesADuplicate : Prop :=
  ∀ (s : State) (x : Code) (w : Word), s.takesWrite (0x150 + x.val) w →
    let gives (q : Part) : Prop := exec (.signalCodeInstall x w) s = .next ((s.served (0x150 + x.val) w).after q)
    (∀ y : Code, y ≠ x → s.part.codes[y] = some w →
      gives (s.part.hand .tableRefused .none (detail2 3 (BitVec.ofNat 8 x.val)) (detail1 2))) ∧
    ((∀ y : Code, y ≠ x → s.part.codes[y] ≠ some w) →
      gives { s.part with codes := s.part.codes.set x.val (some w) })

/-- PENDING_WORD_WRITE, TONE_DESCRIPTOR_COMMIT and RING_CADENCE_COMMIT (R137, R143, R166, Tables 10-11, 10-12). A record
that has no index codes it as none (log 12). A cadence that is both out of range and empty is refused for RANGE (log 26). -/
def Obligations.PendingWordsTonesAndCadence : Prop :=
  (∀ (s : State) (off : Offset) (w : Word), isPendingOffset off.toNat = true → s.takesWrite off.toNat w →
    Memory.wf s.part.copies = true → ∃ q, exec (.pendingWordWrite off w) s = .next ((s.served off.toNat w).after q) ∧
      q = { s.part with copies := q.copies } ∧ Memory.wf q.copies = true ∧
      ∀ a, q.copies.read a = if a = off.toNat then w else s.part.copies.read a) ∧
  (∀ (s : State) (t : ToneIx) (w : Word), s.takesWrite (0x707 + 8 * t.val) w →
    let word (i : Nat) : Word := if i = 7 then w else s.part.copies.read (0x700 + 8 * t.val + i)
    let step (i : Nat) : ToneStep := .ofWords (word (2 * i)) (word (2 * i + 1))
    let fits (x : ToneStep) : Prop := x.start ≤ 1023 ∧ x.length ≤ 64 ∧ x.start + x.length ≤ 1024
    let gives (q : Part) : Prop := exec (.toneDescriptorCommit t w) s = .next ((s.served (0x707 + 8 * t.val) w).after q)
    ((fits (step 0) ∧ fits (step 1) ∧ fits (step 2) ∧ fits (step 3)) → gives { s.part with tone := { s.part.tone with
      descriptors := s.part.tone.descriptors.set t.val #v[step 0, step 1, step 2, step 3] } }) ∧
    (¬ (fits (step 0) ∧ fits (step 1) ∧ fits (step 2) ∧ fits (step 3)) →
      gives (s.part.hand .tableRefused .none (detail2 4 (BitVec.ofNat 8 t.val)) 0))) ∧
  (∀ (s : State) (w : Word), s.takesWrite 0x747 w →
    let word (i : Nat) : Word := if i = 7 then w else s.part.copies.read (0x740 + i)
    let step (i : Nat) : CadenceStep := ⟨decide (word (2 * i) = 1), (word (2 * i + 1)).toNat⟩
    let inRange : Prop := ∀ i : Nat, i < 4 → (word (2 * i)).toNat ≤ 1 ∧ (word (2 * i + 1)).toNat ≤ 10000
    let gives (q : Part) : Prop := exec (.ringCadenceCommit w) s = .next ((s.served 0x747 w).after q)
    (inRange → (word 1).toNat ≠ 0 →
      gives { s.part with tone := { s.part.tone with cadence := #v[step 0, step 1, step 2, step 3] } }) ∧
    (¬ inRange → gives (s.part.hand .tableRefused .none (detail2 5 0xFF) 0)) ∧
    (inRange → (word 1).toNat = 0 → gives (s.part.hand .tableRefused .none (detail2 5 0xFF) (detail1 6))))

/-- DIRECTORY_COMMIT (R45 to R47, Tables 3-2 and 10-7): an entry whose valid field is no is installed as written; a valid one
is installed or refused for the first check of Table 3-2 that fails. -/
def Obligations.DirectoryCommitChecksInOrder : Prop :=
  ∀ (s : State) (d : EntryIx) (w : Word), s.takesWrite (0x803 + 4 * d.val) w →
    let word (i : Nat) : Word := s.part.copies.read (0x800 + 4 * d.val + i)
    let e := DirEntry.ofWords (word 0) (word 1) (word 2) w
    let length := e.pfxLength.toNat
    let range : Prop := 1 ≤ length ∧ length ≤ 6 ∧ (∀ x ∈ e.pfx, x ≤ 11) ∧ length ≤ e.totalLength.toNat ∧
      e.totalLength.toNat ≤ 16 ∧ e.strip.toNat ≤ length ∧ e.kind ≠ 3 ∧ e.callClass ≠ 3 ∧
      ∀ i : Fin 16, e.mask.getLsbD i.val = true → 1 ≤ i.val ∧ i.val ≤ 12
    let preempt : Prop := e.preempt = true → e.callClass = 2
    let station : Prop := e.kind = 1 → e.totalLength.toNat = length + 2
    let mask : Prop := e.kind = 0 ↔ e.mask = 0
    let alone : Prop := ∀ i : EntryIx, i ≠ d → s.part.directory[i].valid = true → s.part.directory[i].pfx ≠ e.pfx
    let gives (q : Part) : Prop := exec (.directoryCommit d w) s = .next ((s.served (0x803 + 4 * d.val) w).after q)
    let refused (reason : Nat) : Prop :=
      gives (s.part.hand .tableRefused (.entry d) (detail2 6 (BitVec.ofNat 8 d.val)) (detail1 reason))
    let installed : Prop := gives { s.part with directory := s.part.directory.set d.val e }
    (e.valid = false → installed) ∧
    (e.valid = true →
      (¬ range → refused 0) ∧ (range → ¬ preempt → refused 3) ∧ (range → preempt → ¬ station → refused 4) ∧
      (range → preempt → station → ¬ mask → refused 5) ∧ (range → preempt → station → mask → ¬ alone → refused 2) ∧
      (range → preempt → station → mask → alone → installed)) ∧
    e.valid = (word 0).getLsbD 15 ∧ e.pfxLength = (word 0).extractLsb' 12 3 ∧
    e.totalLength = (word 0).extractLsb' 7 5 ∧ e.strip = (word 0).extractLsb' 4 3 ∧ e.kind = (word 0).extractLsb' 2 2 ∧
    e.callClass = (word 0).extractLsb' 0 2 ∧ e.preempt = (word 2).getLsbD 0 ∧ e.mask = w ∧
    e.nibbles = #v[(word 1).extractLsb' 12 4, (word 1).extractLsb' 8 4, (word 1).extractLsb' 4 4, (word 1).extractLsb' 0 4,
      (word 2).extractLsb' 12 4, (word 2).extractLsb' 8 4] ∧
    ∀ i : Fin 6, e.pfx[i.val]? = if i.val < length then some e.nibbles[i].toNat else none

/-- PROFILE_COMMIT (R39, R167, Table 10-8): the checks, and what an install does by the old and new in-service fields and the
part mode. -/
def Obligations.ProfileCommitActsOnTheLine : Prop :=
  ∀ (s : State) (n : Line) (w : Word), s.takesWrite (0x603 + 4 * n.val) w →
    let word (i : Nat) : Word := s.part.copies.read (0x600 + 4 * n.val + i)
    let station := ((word 0).extractLsb' 0 7).toNat
    let classCode := ((word 1).extractLsb' 5 2).toNat
    let delay := (w.extractLsb' 0 4).toNat
    let range : Prop := station ≤ 99 ∧ delay ≤ 10 ∧ classCode ≤ 1
    let inService := (word 0).getLsbD 15
    let taken : Prop := ∃ m : Line, m ≠ n ∧ s.part.lines[m].profile.inService = true ∧
      s.part.lines[m].profile.station = station
    let profile : Profile := {
      inService := inService, station := station, level := .ofCode ((word 1).extractLsb' 0 2).toNat
      ringPattern := if (word 1).getLsbD 2 = true then .b else .a, reversal := (word 1).getLsbD 3
      trunkAccess := (word 1).getLsbD 4, lineClass := if classCode = 1 then .priority else .normal
      hotline := if (word 2).getLsbD 15 = true then some (Fin.ofNat 64 ((word 2).extractLsb' 0 6).toNat) else none
      hotlineDelay := delay }
    let p := s.part.setLine n { s.part.lines[n] with profile := profile }
    let gives (q : Part) : Prop := exec (.profileCommit n w) s = .next ((s.served (0x603 + 4 * n.val) w).after q)
    let refused (reason : Nat) : Prop :=
      gives (s.part.hand .tableRefused (.line n) (detail2 0 (BitVec.ofNat 8 n.val)) (detail1 reason))
    let before := s.part.lines[n].profile.inService
    (¬ range → refused 0) ∧ (range → inService = true → taken → refused 2) ∧
    (range → (inService = false ∨ ¬ taken) →
      (before = inService → gives p) ∧
      (before = true → inService = false →
        (s.part.cmd.mode = .running → gives ((p.abandon n).enterLine n .outOfService)) ∧
        (s.part.cmd.mode = .halted → gives (p.enterLine n .outOfService))) ∧
      (before = false → inService = true →
        ((s.part.cmd.mode = .halted ∨ s.part.sup[n].loop = .opened) → gives (p.enterLine n .idle)) ∧
        (s.part.cmd.mode = .running → s.part.sup[n].loop = .closed → gives ((p.enterLine n .idle).originate n))))

/-- CHANNEL_CONFIG_COMMIT (R89, R108, R168, Table 10-9): the check, the stall timer, and what an install does by the old and
new enabled fields and the channel's state. TABLE-REFUSED names the channel by the index 1 to 12, the model's choice (log 12). -/
def Obligations.ChannelConfigCommitActsOnTheChannel : Prop :=
  ∀ (s : State) (k : Chan) (w : Word), s.takesWrite (0x6C1 + 2 * k.val) w →
    let limit := (s.part.copies.read (0x6C0 + 2 * k.val)).toNat
    let enabled := w.getLsbD 15
    let watch := w.getLsbD 14
    let c := s.part.chans[k]
    let stall : Timer :=
      if watch = false then ⟨false, 0, false⟩
      else if c.config.stallWatch = true ∨ c.state = .offline then c.stall else ⟨true, 0, false⟩
    let installed : ChanRecord := { c with
      config := { enabled := enabled, stallWatch := watch, stallLimit := limit }, stall := stall }
    let p := s.part.setChan k installed
    let gives (q : Part) : Prop := exec (.channelConfigCommit k w) s = .next ((s.served (0x6C1 + 2 * k.val) w).after q)
    ((limit < 10 ∨ 1000 < limit) →
      gives (s.part.hand .tableRefused (.chan k) (detail2 1 (BitVec.ofNat 8 (k.val + 1))) 0)) ∧
    (10 ≤ limit → limit ≤ 1000 →
      (c.config.enabled = enabled → gives p) ∧
      (c.config.enabled = false → enabled = true →
        (c.state = .offline → s.part.link.state = .up → s.part.cmd.mode = .running →
          gives ((p.enterChan k .idle).leave k)) ∧
        (c.state = .offline → (s.part.link.state ≠ .up ∨ s.part.cmd.mode = .halted) → gives p) ∧
        (c.state ≠ .offline → gives (p.setChan k { installed with draining := false }).judgeUnusable)) ∧
      (c.config.enabled = true → enabled = false →
        (c.state = .offline → gives p) ∧
        ((c.state = .idle ∨ c.state = .fault ∨ c.state = .blockedFar) → gives ((p.enterChan k .offline).leave k)) ∧
        (c.state ≠ .offline → c.state ≠ .idle → c.state ≠ .fault → c.state ≠ .blockedFar →
          gives (p.setChan k { installed with draining := true }).judgeUnusable)))

/-- GENERAL_CONFIG_COMMIT (R126, R131, R134, R136, R169, Tables 10-4 and 10-10): the checks, the fields, and what a changed
policy and a changed ring budget do in the event. The policy acts before the budget (log 13). TABLE-REFUSED names the index as
none, the model's choice (log 12). A wake edge that stands is withdrawn under policy OFF (R117; log 17). -/
def Obligations.GeneralConfigCommitActsOnPolicyAndBudget : Prop :=
  (∀ (s : State) (w : Word), s.takesWrite 0x6FF w →
    let word (i : Nat) : Word := s.part.copies.read (0x6E0 + i)
    let policyCode := (w.extractLsb' 0 2).toNat
    let switchingCode := (w.extractLsb' 2 2).toNat
    let policy : LinkPolicy := if policyCode = 0 then .off else if policyCode = 1 then .onDemand else .alwaysOn
    let switching : SwitchingMode := if switchingCode = 0 then .never else if switchingCode = 1 then .isolated else .always
    let g := GenConfig.ofFields word w policy switching
    let range : Prop := policyCode ≤ 2 ∧ switchingCode ≤ 2 ∧ g.inRange = true
    let gives (q : Part) : Prop := exec (.generalConfigCommit w) s = .next ((s.served 0x6FF w).after q)
    let refused (reason : Nat) : Prop := gives (s.part.hand .tableRefused .none (detail2 2 0xFF) (detail1 reason))
    let q := { s.part with gen := g }.policyChanged s.part.gen.policy
    (¬ range → refused 0) ∧ (range → g.onHookMin ≤ g.breakMax → refused 1) ∧
    (range → g.breakMax < g.onHookMin →
      gives (if s.part.effectiveBudget < q.effectiveBudget then q.grantSlots else q))) ∧
  (∀ (p : Part) (old : LinkPolicy),
    let noEdge : Part := { p with link := { p.link with wakeEdge := false } }
    ((p.cmd.mode = .halted ∨ p.gen.policy = old) → p.policyChanged old = p) ∧
    (p.cmd.mode = .running → p.gen.policy ≠ old →
      (p.gen.policy = .off → p.link.state = .off → p.policyChanged old = noEdge) ∧
      (p.gen.policy = .off → p.link.state ≠ .off → p.policyChanged old = noEdge.enterLink .off none .policy) ∧
      (p.gen.policy = .onDemand → p.link.state = .off → p.policyChanged old =
        if p.demandOutstanding = true then p.enterLink .starting (some .localSide) .policy else p) ∧
      (p.gen.policy = .alwaysOn → p.link.state = .off →
        p.policyChanged old = p.enterLink .starting (some .localSide) .policy) ∧
      (p.gen.policy ≠ .off → p.link.state = .up → p.policyChanged old = p.judgeSilence) ∧
      (p.gen.policy ≠ .off → (p.link.state = .starting ∨ p.link.state = .holdoff) → p.policyChanged old = p)))

/-! ## The command unit

A command is a write of the command word at 748H: the code in bits 15 to 8 and the operand in bits 7 to 0 (Table 10-13). -/

/-- R171 and R172: the sequence count, the checks in their order, what a refusal hands, and the codes that are no command. HALT
is allowed in either mode while a long command runs (Table 10-5; log 9). -/
def Obligations.CommandsAreJudgedInOrder : Prop :=
  (∀ (s : State) (c : Command) (operand : BitVec 8), s.takesWrite 0x748 (c.code ++ operand) →
    let p : Part := { s.part with cmd := { s.part.cmd with sequence := s.part.cmd.sequence + 1 } }
    let inLong : Prop := s.part.cmd.long ≠ .none
    let allowed : Prop := match c with
      | .start => s.part.cmd.mode = .halted
      | .halt => s.part.cmd.mode = .running ∨ inLong
      | .clearCalls | .lineReset => s.part.cmd.mode = .running
      | .linkUp => s.part.gen.policy ≠ .off
      | _ => True
    let named : Prop := match c with
      | .lineReset => operand.toNat ≤ 47
      | .channelReset => 1 ≤ operand.toNat ∧ operand.toNat ≤ 12
      | _ => True
    let refused (result : CommandResult) (item : Word) : Prop :=
      exec (c.instr operand) s = .next ((s.served 0x748 (c.code ++ operand)).after
        ((p.hand .commandRefused .none (detail2 c.code (p.cmd.sequence.setWidth 8)) item).requestEcho
          (echoWord c.code result p.cmd.sequence)))
    (inLong → c ≠ .halt → refused .refusedBusy 0) ∧
    ((¬ inLong ∨ c = .halt) → ¬ allowed → refused .refusedMode 1) ∧
    ((¬ inLong ∨ c = .halt) → allowed → ¬ named → refused .refusedOperand 2)) ∧
  (∀ (s : State) (w : Word), s.takesWrite 0x748 w →
    let code := w.extractLsb' 8 8
    let p : Part := { s.part with cmd := { s.part.cmd with sequence := s.part.cmd.sequence + 1 } }
    (code = 0 → exec (.commandUndefined w) s = .next ((s.served 0x748 w).after s.part)) ∧
    (10 < code.toNat → exec (.commandUndefined w) s = .next ((s.served 0x748 w).after
      ((p.hand .commandRefused .none (detail2 code (p.cmd.sequence.setWidth 8)) 2).requestEcho
        (echoWord code .refusedOperand p.cmd.sequence))))) ∧
  (∀ (code : BitVec 8) (result : CommandResult) (sequence : BitVec 4),
    (echoWord code result sequence).extractLsb' 8 8 = code ∧ (echoWord code result sequence).extractLsb' 0 4 = sequence ∧
    (echoWord code result sequence).extractLsb' 4 4 = match result with
      | .accepted => 1
      | .done => 2
      | .aborted => 3
      | .refusedBusy => 4
      | .refusedMode => 5
      | .refusedOperand => 6)

/-- START, LINK-UP, LINK-DOWN, LINE-RESET, CHANNEL-RESET and REPORT-FLUSH accepted (R40, R111, R117, R125, R126, R173, R175):
the effect of each, then COMMAND-DONE and the echo DONE. START posts each line that is IDLE for its own event (R42; log 16). A
channel that CHANNEL-RESET leaves where it is enters no state (log 14). -/
def Obligations.ShortCommandsAct : Prop :=
  ∀ (s : State) (c : Command) (operand : BitVec 8), s.takesWrite 0x748 (c.code ++ operand) → s.part.cmd.long = .none →
    let sequence := s.part.cmd.sequence + 1
    let p : Part := { s.part with cmd := { s.part.cmd with sequence := sequence } }
    let done (q : Part) : Prop := exec (c.instr operand) s = .next ((s.served 0x748 (c.code ++ operand)).after
      ((q.hand .commandDone .none (detail2 c.code (sequence.setWidth 8)) 0).requestEcho (echoWord c.code .done sequence)))
    (c = .start → p.cmd.mode = .halted →
      let q : Part := { p with cmd := { p.cmd with
        mode := .running
        starting := (List.finRange 48).filter fun n : Line => p.lines[n].state == LineState.idle } }
      done (if p.gen.policy = .alwaysOn then q.enterLink .starting (some .localSide) .policy else q)) ∧
    (c = .linkUp → p.gen.policy ≠ .off →
      (p.cmd.mode = .halted → done p) ∧
      (p.cmd.mode = .running → p.link.state = .off → done (p.enterLink .starting (some .localSide) .command)) ∧
      (p.cmd.mode = .running → p.link.state = .starting → done p) ∧
      (p.cmd.mode = .running → p.link.state = .up → done
        (if p.link.silence.running = true then { p with link := { p.link with silence := ⟨true, 0, false⟩ } } else p)) ∧
      (p.cmd.mode = .running → p.link.state = .holdoff → done { p with link := { p.link with demandFlag := true } })) ∧
    (c = .linkDown →
      ((p.link.state = .up ∨ p.link.state = .starting) → done (p.enterLink .holdoff none .command)) ∧
      (p.link.state = .holdoff → done { p with link := { p.link with demandFlag := false } }) ∧
      (p.link.state = .off → done p)) ∧
    (∀ n : Line, c = .lineReset → operand.toNat = n.val → p.cmd.mode = .running →
      (p.lines[n].state = .outOfService → done p) ∧
      (p.lines[n].state ≠ .outOfService → p.sup[n].loop = .opened → done ((p.abandon n).enterLine n .idle)) ∧
      (p.lines[n].state ≠ .outOfService → p.sup[n].loop = .closed →
        done ((p.abandon n).enterLine n .lockout none true))) ∧
    (∀ k : Chan, c = .channelReset → operand.toNat = k.val + 1 →
      let d := p.chans[k]
      let q := match d.partner with
        | none => p
        | some n => (p.breakChan k).dropLine n .congestion
      let idles : Prop := p.link.state = .up ∧ d.config.enabled = true ∧ p.cmd.mode = .running
      let reset : ChanRecord := { d with
        partner := none, draining := false, accepted := none, candidate := none, run := 0, timer := ⟨false, 0, false⟩ }
      let toIdle := q.setChan k { reset with stall := if d.config.stallWatch = true then ⟨true, 0, false⟩ else d.stall }
      (idles → d.state = .idle → done (toIdle.leave k)) ∧
      (idles → d.state ≠ .idle → done ((toIdle.enterChan k .idle).leave k)) ∧
      (¬ idles → d.state = .offline → done (q.setChan k reset)) ∧
      (¬ idles → d.state ≠ .offline → done (((q.setChan k reset).enterChan k .offline).leave k))) ∧
    (c = .reportFlush → done (p.closeOrPend .flush))

/-- HALT accepted (R41, R76, R112, R126, R132, R174): what it leaves in every block and what it does not touch, and how it
ends each long command (R176 to R178). It withdraws the link changes that channels have not taken (log 15), the lines that START
posted (log 16) and the radio samples that the link controller has not taken (log 17), and counts the records of an aborted
SNAPSHOT that are still awaited (log 20). -/
def Obligations.HaltStopsEverything : Prop :=
  (∀ (s : State) (operand : BitVec 8), s.takesWrite 0x748 (Command.halt.code ++ operand) →
    (s.part.cmd.mode = .running ∨ s.part.cmd.long ≠ .none) → ∃ t, exec (.halt operand) s = .next t ∧
    t.part.cmd.mode = .halted ∧ t.part.cmd.long = .none ∧ t.part.cmd.starting = [] ∧
    t.part.cmd.sequence = s.part.cmd.sequence + 1 ∧
    (∀ n : Line, s.part.lines[n].state = .outOfService → t.part.lines[n] = s.part.lines[n]) ∧
    (∀ n : Line, s.part.lines[n].state ≠ .outOfService → t.part.lines[n].state = .idle) ∧
    (∀ n : Line, s.part.lines[n].state ≠ .outOfService → s.part.lines[n].state ≠ .idle →
      (t.part.lines[n].partner, t.part.lines[n].role, t.part.lines[n].digits, t.part.lines[n].route,
        t.part.lines[n].timer) = (none, none, [], none, ⟨false, 0, false⟩)) ∧
    (∀ n : Line, t.part.lines[n].profile = s.part.lines[n].profile) ∧
    (∀ k : Chan, t.part.chans[k].state = .offline ∧ t.part.chans[k].linkChanges = [] ∧
      t.part.chans[k].config = s.part.chans[k].config) ∧
    t.part.link = { s.part.link with
      state := .off, origin := none, demandFlag := false, rememberedWake := false, timer := ⟨false, 0, false⟩
      silence := ⟨false, 0, false⟩, rrdySample := none, wakeEdge := false } ∧
    (∀ n : Line, t.part.alloc.waiters[n] = none) ∧ t.part.alloc.occupancy = [] ∧
    t.part.alloc.pointers = s.part.alloc.pointers ∧
    (∀ n : Line, t.part.ring.slots[n] = none ∧ t.part.ring.alert[n] = ⟨false, 0, false⟩) ∧ t.part.ring.queue = [] ∧
    t.part.sup = s.part.sup ∧ t.part.supply = s.part.supply ∧ t.part.directory = s.part.directory ∧
    t.part.codes = s.part.codes ∧ t.part.copies = s.part.copies ∧ t.part.gen = s.part.gen ∧
    t.part.tone.descriptors = s.part.tone.descriptors ∧ t.part.tone.cadence = s.part.tone.cadence ∧
    t.part.clock = s.part.clock ∧ t.mem = (s.served 0x748 (Command.halt.code ++ operand)).mem ∧ t.pending = s.pending) ∧
  (∀ p : Part,
    let ended (q : Part) (code : BitVec 8) : Part :=
      (q.hand .commandDone .none (detail2 code (p.cmd.longSequence.setWidth 8)) 1).requestEcho
        (echoWord code .aborted p.cmd.longSequence)
    p.halt = p.abortLong.halt ∧
    (p.cmd.long = .none → p.abortLong = p) ∧
    (∀ lines chans, p.cmd.long = .clearCalls lines chans →
      p.abortLong = ended { p with cmd := { p.cmd with long := .none } } 0x03) ∧
    (∀ next, p.cmd.long = .rescan next → p.abortLong = ended { p with cmd := { p.cmd with
      long := .none, rescanStale := p.cmd.rescanOutstanding.isSome } } 0x04) ∧
    (∀ next, p.cmd.long = .snapshot next → p.abortLong =
      let q : Part := { p with cmd := { p.cmd with
        long := .none, awaitingAborted := p.cmd.awaitingAborted + (if next = 0 then 0 else 1) + 1 } }
      ended (q.hand .snapshotEnd .none 1 0xFFFF .aborted) 0x05))

/-- CLEAR-CALLS, RESCAN and SNAPSHOT accepted (R172, R176 to R178), and the completion of CLEAR-CALLS, which the end of every
event judges. While a read or a record of an aborted command is still awaited the new one waits for it (log 20). -/
def Obligations.LongCommandsBegin : Prop :=
  (∀ (s : State) (c : Command) (operand : BitVec 8), s.takesWrite 0x748 (c.code ++ operand) → s.part.cmd.long = .none →
    let sequence := s.part.cmd.sequence + 1
    let begun (long : LongCommand) : Part :=
      { s.part with cmd := { s.part.cmd with sequence := sequence, long := long, longSequence := sequence } }
    let gives (q : Part) : Prop :=
      exec (c.instr operand) s = .next ((s.served 0x748 (c.code ++ operand)).after q)
    let echo := echoWord c.code .accepted sequence
    let lines := (List.finRange 48).filter fun n : Line => s.part.lines[n].state.hasCall
    let chans := (List.finRange 12).filter fun k : Chan => s.part.chans[k].state == ChanState.incoming
    (c = .clearCalls → s.part.cmd.mode = .running →
      let q := begun (.clearCalls lines chans)
      ((lines = [] ∧ chans = [] ∧ ∀ k : Chan, s.part.chans[k].state.quiet = true) → gives q) ∧
      ((lines ≠ [] ∨ chans ≠ [] ∨ ∃ k : Chan, s.part.chans[k].state.quiet = false) → gives (q.requestEcho echo))) ∧
    (c = .rescan →
      let q := begun (.rescan 0x150)
      (s.part.cmd.rescanOutstanding = none → gives (({ q with cmd := { q.cmd with
        rescanOutstanding := some 0x150, rescanStale := false } }.request .tableLoader 0x150 none).requestEcho echo)) ∧
      (s.part.cmd.rescanOutstanding ≠ none → gives (q.requestEcho echo))) ∧
    (c = .snapshot →
      (s.part.cmd.awaitingAborted = 0 →
        gives ((((begun (.snapshot 0)).handSnapshotLine 0).setLong (.snapshot 1)).requestEcho echo)) ∧
      (s.part.cmd.awaitingAborted ≠ 0 → gives ((begun (.snapshot 0)).requestEcho echo)))) ∧
  (∀ (q : Part) (lines : List Line) (chans : List Chan), q.cmd.long = .clearCalls lines chans →
    let ended : Prop := lines = [] ∧ chans = [] ∧ ∀ k : Chan, q.chans[k].state.quiet = true
    (ended → q.judgeClearCalls = ({ q with cmd := { q.cmd with long := .none } }.hand .commandDone .none
      (detail2 0x03 (q.cmd.longSequence.setWidth 8)) 0).requestEcho (echoWord 0x03 .done q.cmd.longSequence)) ∧
    (¬ ended → q.judgeClearCalls = q)) ∧
  (∀ q : Part, q.settled = { q.judgeClearCalls.takeBuffer.beginRecord with outbox := [] })

/-- ECHO_WRITE_COMPLETE, RESCAN_READ_COMPLETE and SNAPSHOT_DISPOSAL (R172, R177, R178): the held echo, the reads of RESCAN
in their order, each acting exactly as a snooped write of its word would, and the records of SNAPSHOT in their order. A
disposal of an aborted SNAPSHOT, and that of a SNAPSHOT-END, act on no snapshot (log 20). A completed read acts with the word as
read, even where a later master write of its word was taken before its completion (the model's choice, log 30). -/
def Obligations.LongCommandsGoOn : Prop :=
  (∀ s : State, s.live → s.path.echoDone = true →
    let t := { s with path := { s.path with echoDone := false } }
    (s.part.cmd.echoHeld = none → exec .echoWriteComplete s =
      .next (t.after { s.part with cmd := { s.part.cmd with echoOutstanding := false } })) ∧
    (∀ w, s.part.cmd.echoHeld = some w → exec .echoWriteComplete s = .next (t.after
      ({ s.part with cmd := { s.part.cmd with echoOutstanding := true, echoHeld := none } }.request .commandUnit 0x749
        (some w))))) ∧
  (∀ (p : Part) (w : Word),
    (p.cmd.echoOutstanding = false → p.requestEcho w =
      { p with cmd := { p.cmd with echoOutstanding := true } }.request .commandUnit 0x749 (some w)) ∧
    (p.cmd.echoOutstanding = true → p.requestEcho w = { p with cmd := { p.cmd with echoHeld := some w } })) ∧
  (∀ (s : State) (w : Word) (off : Nat), s.live → s.path.rescanDone = some w → s.part.cmd.rescanOutstanding = some off →
    let t := { s with path := { s.path with rescanDone := none } }
    let gives (q : Part) : Prop := exec .rescanReadComplete s = .next (t.after q)
    let read (q : Part) (next : Nat) : Part := { q with cmd := { q.cmd with
      long := .rescan next, rescanOutstanding := some next, rescanStale := false } }.request .tableLoader next none
    let q := s.part.tableWord off w
    (s.part.cmd.rescanStale = false →
      (off ≠ 0x8FF → gives (read q (if off = 0x163 then 0x600 else if off = 0x6D7 then 0x6E0
        else if off = 0x747 then 0x800 else off + 1))) ∧
      (off = 0x8FF → gives (({ q with cmd := { q.cmd with long := .none, rescanOutstanding := none } }.hand .commandDone
        .none (detail2 0x04 (q.cmd.longSequence.setWidth 8)) 0).requestEcho
          (echoWord 0x04 .done q.cmd.longSequence)))) ∧
    (s.part.cmd.rescanStale = true →
      (∀ next, s.part.cmd.long = .rescan next → gives (read s.part next)) ∧
      ((∀ next, s.part.cmd.long ≠ .rescan next) → gives { s.part with cmd := { s.part.cmd with
        rescanOutstanding := none, rescanStale := false } }))) ∧
  (∀ (s : State) (off : Nat) (w : Word), s.takesWrite off w →
    let same (i : Instr) : Prop := exec i s = .next ((s.served off w).after (s.part.tableWord off w))
    (∀ x : Code, off = 0x150 + x.val → same (.signalCodeInstall x w)) ∧
    (∀ o : Offset, off = o.toNat → isPendingOffset off = true → same (.pendingWordWrite o w)) ∧
    (∀ n : Line, off = 0x603 + 4 * n.val → same (.profileCommit n w)) ∧
    (∀ k : Chan, off = 0x6C1 + 2 * k.val → same (.channelConfigCommit k w)) ∧
    (off = 0x6FF → same (.generalConfigCommit w)) ∧
    (∀ x : ToneIx, off = 0x707 + 8 * x.val → same (.toneDescriptorCommit x w)) ∧
    (off = 0x747 → same (.ringCadenceCommit w)) ∧
    (∀ d : EntryIx, off = 0x803 + 4 * d.val → same (.directoryCommit d w))) ∧
  (∀ (s : State) (tag : SnapshotTag) (fate : Disposal) (rest : List (SnapshotTag × Disposal)), s.live →
    s.part.cmd.disposals = (tag, fate) :: rest →
    let p : Part := { s.part with cmd := { s.part.cmd with disposals := rest } }
    let gives (q : Part) : Prop := exec .snapshotDisposal s = .next (s.after q)
    let next (q : Part) (i : Nat) : Prop :=
      (∀ n : Line, i = n.val → gives ((q.hand .snapshotLine (.line n)
        (detail3 q.lines[n].state.item q.sup[n].loop.item4 q.sup[n].phase.item4) (partnerDetail q.lines[n].partner)
        .subject).setLong (.snapshot (i + 1)))) ∧
      (∀ k : Chan, i = 48 + k.val → gives ((q.hand .snapshotChannel (.chan k)
        (detail3 q.chans[k].state.item (optItem4 Direction.item4 q.chans[k].direction)
          (optItem4 CallClass.item4 q.chans[k].callClass))
        (detail2 (optItem lineItem q.chans[k].partner)
          (optItem (fun x : Code => BitVec.ofNat 8 x.val) q.chans[k].accepted))
        .subject).setLong (.snapshot (i + 1)))) ∧
      (i = 60 → gives ((((q.hand .snapshotEnd .none 0 0xFFFF .complete).setLong .none).hand .commandDone .none
        (detail2 0x05 (q.cmd.longSequence.setWidth 8)) 0).requestEcho (echoWord 0x05 .done q.cmd.longSequence)))
    (tag = .complete → gives p) ∧
    (tag ≠ .complete → p.cmd.awaitingAborted = 0 →
      (∀ i, p.cmd.long = .snapshot i → next p i) ∧ ((∀ i, p.cmd.long ≠ .snapshot i) → gives p)) ∧
    (∀ left, tag ≠ .complete → p.cmd.awaitingAborted = left + 1 →
      let q : Part := { p with cmd := { p.cmd with awaitingAborted := left } }
      (∀ i, left = 0 → p.cmd.long = .snapshot i → next q i) ∧
      ((left ≠ 0 ∨ ∀ i, p.cmd.long ≠ .snapshot i) → gives q)))

/-! ## The backhaul link -/

/-- READY, READY_LOST, START_LIMIT_EXPIRY, RETRY_HOLDOFF_EXPIRY, SILENCE_EXPIRY and WAKE_EDGE (R116 to R119, R121 to R124),
and what entering a link state does (R115, R120, R122, R127): the link's record, LKEN, the report, the changes handed to the
channels (log 1), the entries' unusable timers and nothing else. A sample stands until its row takes it, is judged by the link
state then, and a ready or ready-lost event is withdrawn when the link leaves the state that made it (the model's choice,
log 17). -/
def Obligations.LinkFollowsItsEvents : Prop :=
  (∀ s : State, s.live →
    let p := s.part
    let gives (i : Instr) (q : Part) : Prop := exec i s = .next (s.after q)
    (p.link.state = .starting → p.link.rrdySample = some true → gives .ready (p.enterLink .up none .ready)) ∧
    (p.link.state = .up → p.link.rrdySample = some false →
      gives .readyLost (p.enterLink .holdoff none .readyLost)) ∧
    (p.link.state = .starting → p.link.timer.due = true →
      gives .startLimitExpiry (p.enterLink .holdoff none .startLimit)) ∧
    (p.link.state = .up → p.link.silence.due = true → gives .silenceExpiry (p.enterLink .off none .silence)) ∧
    (p.link.state = .holdoff → p.link.timer.due = true →
      let restarts (origin : Origin) : Prop :=
        gives .retryHoldoffExpiry (p.enterLink .starting (some origin) .holdoffEnd)
      (p.gen.policy = .alwaysOn → restarts (if p.link.rememberedWake = true then .remote else .localSide)) ∧
      (p.gen.policy = .onDemand → p.link.rememberedWake = true → restarts .remote) ∧
      (p.gen.policy = .onDemand → p.link.rememberedWake = false →
        (p.link.demandFlag = true ∨ p.demandOutstanding = true) → restarts .localSide) ∧
      (p.gen.policy = .onDemand → p.link.rememberedWake = false → p.link.demandFlag = false →
        p.demandOutstanding = false → gives .retryHoldoffExpiry (p.enterLink .off none .holdoffEnd))) ∧
    (p.link.wakeEdge = true →
      let q : Part := { p with link := { p.link with wakeEdge := false } }
      ((p.cmd.mode = .halted ∨ p.gen.policy = .off) → gives .wakeEdge q) ∧
      (p.cmd.mode = .running → p.gen.policy ≠ .off → p.link.state = .holdoff →
        gives .wakeEdge { q with link := { q.link with rememberedWake := true } }) ∧
      (p.cmd.mode = .running → p.gen.policy = .alwaysOn → p.link.state ≠ .holdoff → gives .wakeEdge q) ∧
      (p.cmd.mode = .running → p.gen.policy = .onDemand → p.link.state = .off →
        gives .wakeEdge (q.enterLink .starting (some .remote) .wake)) ∧
      (p.cmd.mode = .running → p.gen.policy = .onDemand → (p.link.state = .starting ∨ p.link.state = .up) →
        gives .wakeEdge { q with link := { q.link with origin := some .remote } }.judgeSilence)) ∧
    (p.demandOutstanding = true ↔ ∃ (n : Line) (e : WaitEntry), p.alloc.waiters[n] = some e ∧
      (e.callClass ≠ .normal ∨ p.supply.warning = false) ∧ p.maskUsable e.mask = false)) ∧
  (∀ (p : Part) (state : LinkState) (origin : Option Origin) (cause : LinkCause),
    let q := p.enterLink state origin cause
    let l := p.link
    q.link.state = state ∧
    q.link.origin = (if state = .starting then origin else if state = .up then l.origin else none) ∧
    (q.link.demandFlag, q.link.rememberedWake) =
      (if state = .starting ∨ state = .off then (false, false) else (l.demandFlag, l.rememberedWake)) ∧
    q.link.timer = (if state = .starting ∨ state = .holdoff then ⟨true, 0, false⟩ else ⟨false, 0, false⟩) ∧
    (state ≠ .up → q.link.silence = ⟨false, 0, false⟩) ∧
    (state = .up → q.link.silence = if q.silenceHolds = true
      then (if l.silence.running = true then l.silence else ⟨true, 0, false⟩) else ⟨false, 0, false⟩) ∧
    (q.link.lastWake, q.link.rrdySample, q.link.wakeEdge) = (l.lastWake, none, l.wakeEdge) ∧
    (q.linkEnable = true ↔ state = .starting ∨ state = .up) ∧
    (p.groupEnabled .linkState = true → p.report.queue.length < 8 → q.report.queue = p.report.queue ++ [{
      kind := .linkState, subject := .none, stamp := p.clock.ms, snapshot := .notSnapshot
      detailA := detail2 state.item (optItem Origin.item q.link.origin), detailB := detail1 cause.item }]) ∧
    q.report = (p.hand .linkState .none (detail2 state.item (optItem Origin.item q.link.origin))
      (detail1 cause.item)).report ∧ q.cmd = p.cmd ∧ q.outbox = p.outbox ∧
    (∀ k : Chan, q.chans[k] = { p.chans[k] with linkChanges := p.chans[k].linkChanges ++
      if state = .up ∧ p.chans[k].config.enabled = true ∧ (p.chans[k].state = .offline ∨ p.chans[k].linkChanges ≠ [])
        then [.up]
      else if state ≠ .up ∧ l.state = .up ∧ (p.chans[k].state ≠ .offline ∨ p.chans[k].linkChanges ≠ [])
        then [.down] else [] }) ∧
    (¬ (state ≠ .up ∧ l.state = .up) → q.alloc = p.alloc) ∧
    (state ≠ .up → l.state = .up → q.alloc = { p.alloc with waiters := q.alloc.waiters } ∧
      ∀ n : Line, q.alloc.waiters[n] = (p.alloc.waiters[n]).map fun e => { e with
        unusableTimer := if e.unusableTimer.running = true then e.unusableTimer else ⟨true, 0, false⟩ }) ∧
    q.sup = p.sup ∧ q.lines = p.lines ∧ q.directory = p.directory ∧ q.codes = p.codes ∧ q.supply = p.supply ∧
    q.ring = p.ring ∧ q.tone = p.tone ∧ q.copies = p.copies ∧ q.gen = p.gen ∧ q.clock = p.clock)

/-! ## Ringing, the supply and the positions -/

/-- SUPPLY_ACCEPTANCE, ALERT_LIMIT_EXPIRY, CADENCE_STEP_END and TONE_STEP_END (R30, R81, R130, R131, R138, R140, R146), and
how slots are requested, given up and granted (R133 to R136). The supply monitor's general configuration is in range (R169), as
every step keeps it. A cadence or a tone position whose step a strobe has ended moves by its own row, to the step and with the
frames left that the strobe named (logs 1, 2). That an alert limit puts the callee in IDLE before the caller is torn down or the
channel told to clear is the model's choice (log 13). -/
def Obligations.SupplyAlertsAndPositions : Prop :=
  (∀ s : State, s.live → 800 ≤ s.part.supply.hold → s.part.generalInRange →
    let p := s.part
    let gives (q : Part) : Prop := exec .supplyAcceptance s = .next (s.after q)
    (p.supply.warning = false → gives ({ p with supply := ⟨true, 0⟩ }.hand .supply .none 1 1)) ∧
    (p.supply.warning = true →
      let told := { p with supply := ⟨false, 0⟩ }.hand .supply .none 0 (BitVec.ofNat 16 p.gen.ringBudget)
      let q := if 1 < p.gen.ringBudget then told.grantSlots else told
      ((p.link.state = .up ∨ ∀ n : Line, p.alloc.waiters[n] = none) → gives q) ∧
      (∀ n e, p.link.state ≠ .up → p.alloc.waiters[(n : Line)] = some e → gives q.demand))) ∧
  (∀ (s : State) (n : Line), s.live → s.part.ring.alert[n].due = true → s.part.lines[n].state = .alerting →
    let q := (((s.part.alertCancel n).breakLine n).enterLine n .idle)
    let gives (q : Part) : Prop := exec (.alertLimitExpiry n) s = .next (s.after q)
    (∀ m, s.part.lines[n].partner = some (.line m) → gives (q.dropLine m .busy)) ∧
    (∀ k, s.part.lines[n].partner = some (.chan k) → gives (q.clearChan k))) ∧
  (∀ (s : State) (n : Line) (step : Fin 4) (count : Nat) (next : Fin 4), s.live →
    s.part.ring.slots[n] = some ⟨step, count, some next⟩ →
    exec (.cadenceStepEnd n) s = .next (s.after { s.part with
      ring := { s.part.ring with slots := s.part.ring.slots.set n.val (some ⟨next, 0, none⟩) } })) ∧
  (∀ (s : State) (n : Line) (tone : Option ToneIx) (step next : Fin 4) (left loaded : FramesLeft) (phase : Nat), s.live →
    s.part.tone.positions[n] = ⟨tone, step, left, phase, some (next, loaded)⟩ →
    exec (.toneStepEnd n) s = .next (s.after { s.part with tone := { s.part.tone with
      positions := s.part.tone.positions.set n.val ⟨tone, next, loaded, 0, none⟩ } })) ∧
  (∀ (p : Part) (n : Line),
    let held : Prop := ∃ c, p.ring.slots[n] = some c
    let timed (timer : Timer) : Ring := { p.ring with alert := p.ring.alert.set n.val timer }
    let started := timed ⟨true, 0, false⟩
    let stopped := timed ⟨false, 0, false⟩
    ((held ∨ n ∈ p.ring.queue) → p.alertRequest n = p) ∧
    (¬ held → n ∉ p.ring.queue →
      (slotsHeld p.ring.slots < p.effectiveBudget → p.alertRequest n =
        { p with ring := { started with slots := p.ring.slots.set n.val (some ⟨0, 0, none⟩) } }) ∧
      (p.effectiveBudget ≤ slotsHeld p.ring.slots → p.alertRequest n =
        { p with ring := { started with queue := p.ring.queue ++ [n] } })) ∧
    (held → p.alertCancel n =
      { p with ring := { stopped with slots := p.ring.slots.set n.val none } }.grantSlots) ∧
    (¬ held → p.alertCancel n = { p with ring := { stopped with queue := p.ring.queue.filter (· != n) } })) ∧
  (∀ p : Part,
    p.effectiveBudget = (if p.supply.warning = true then 1 else p.gen.ringBudget) ∧
    ((p.ring.queue = [] ∨ p.effectiveBudget ≤ slotsHeld p.ring.slots) → p.grantSlots = p) ∧
    (∀ n rest, p.ring.queue = n :: rest → slotsHeld p.ring.slots < p.effectiveBudget → p.grantSlots =
      { p with ring := { p.ring with
        queue := rest, slots := p.ring.slots.set n.val (some ⟨0, 0, none⟩) } }.grantSlots))

/-! ## The report writer -/

/-- R179, R181, R182, R183 and Table 11-2: HEADER_STATE_WRITE; whether a record handed is discarded, queued or dropped and
counted; which buffer is taken, with its GAP record; and which record is begun. An arm of a FULL buffer that comes before the
completion of the other buffer's FULL write is taken leaves ATTN asserted (R187; log 31). -/
def Obligations.ReportQueueAndBuffers : Prop :=
  (∀ (s : State) (x : BufferId) (w : Word), s.takesWrite (headerOffset x) w →
    let r := s.part.report
    let gives (q : Part) : Prop := exec (.headerStateWrite x w) s = .next ((s.served (headerOffset x) w).after q)
    let becomes (state : BufferState) : Prop := gives { s.part with report := r.setBuffer x state }
    let completed : Prop := s.path.reportDone = true ∧ ∃ reason clock, r.job = .closing reason clock 3
    (w = 1 → (r.buffer x = .disarmed ∨ (r.buffer x = .full ∧ ¬ completed)) → becomes .armed) ∧
    (w = 1 → r.buffer x = .full → completed →
      gives { s.part with report := { r.setBuffer x .armed with attnHeld := true } }) ∧
    (w = 0 → (r.buffer x = .armed ∨ r.buffer x = .full) → becomes .disarmed) ∧
    ((r.buffer x = .filling ∨ (w ≠ 0 ∧ w ≠ 1) ∨ (w = 1 ∧ r.buffer x = .armed) ∨ (w = 0 ∧ r.buffer x = .disarmed)) →
      gives s.part)) ∧
  headerOffset .a = 0xC00 ∧ headerOffset .b = 0xE00 ∧
  (∀ (p : Part) (kind : RecordKind) (subject : Subject) (a b : Word) (tag : SnapshotTag),
    let q := p.hand kind subject a b tag
    (p.groupEnabled kind = true ↔ kind.group = 7 ∨ p.gen.enableMask.getLsbD kind.group = true) ∧
    (p.groupEnabled kind = false → q = p) ∧
    (p.groupEnabled kind = true → p.report.queue.length < 8 →
      q = { p with report := { p.report with queue := p.report.queue ++ [⟨kind, subject, a, b, p.clock.ms, tag⟩] } }) ∧
    (p.groupEnabled kind = true → 8 ≤ p.report.queue.length →
      let dropped := { p with report := { p.report with lost := min 65535 (p.report.lost + 1) } }
      (tag = .notSnapshot → q = dropped) ∧
      (tag ≠ .notSnapshot → q = { dropped with cmd := { p.cmd with
        disposals := p.cmd.disposals ++ [(tag, .dropped)] } }))) ∧
  (∀ p : Part,
    let r := p.report
    let free : Prop := r.bufferA ≠ .filling ∧ r.bufferB ≠ .filling
    let taken (x : BufferId) : Part := { p with report := { r.setBuffer x .filling with
        recordCount := 0, closePending := none, age := ⟨false, 0, false⟩, lost := 0, job := .takeBuffer
        gap := if r.lost = 0 then none else some {
          kind := .gap, subject := .none, detailA := BitVec.ofNat 16 r.lost, detailB := 0xFFFF, stamp := p.clock.ms
          snapshot := .notSnapshot } } }.request .reportWriter (headerOffset x) (some 2)
    ((r.queue = [] ∨ ¬ free ∨ (r.bufferA ≠ .armed ∧ r.bufferB ≠ .armed)) → p.takeBuffer = p) ∧
    (r.queue ≠ [] → free →
      (r.bufferA = .armed → (r.bufferB ≠ .armed ∨ r.lastClosed ≠ some .a) → p.takeBuffer = taken .a) ∧
      (r.bufferB = .armed → (r.bufferA ≠ .armed ∨ r.lastClosed = some .a) → p.takeBuffer = taken .b))) ∧
  (∀ (p : Part) (x : BufferId), p.report.filling = some x →
    let writes (q : Part) (r : Record) : Part :=
      q.request .reportWriter (headerOffset x + 0x20 + 4 * p.report.recordCount) (some (r.word 0))
    (p.report.job ≠ .none → p.beginRecord = p) ∧
    (∀ g, p.report.job = .none → p.report.gap = some g →
      p.beginRecord = writes { p with report := { p.report with job := .gapWord 0 } } g) ∧
    (∀ r rest, p.report.job = .none → p.report.gap = none → p.report.queue = r :: rest →
      p.beginRecord = writes { p with report := { p.report with job := .headWord 0 } } r) ∧
    (p.report.job = .none → p.report.gap = none → p.report.queue = [] → p.beginRecord = p)) ∧
  (∀ p : Part, p.report.filling = none → p.beginRecord = p)

/-- REPORT_WORD_WRITE_COMPLETE and AGE_TIMER_EXPIRY (R183 to R185): the words of a record one by one, what the completion of
the fourth does, the closing conditions in their order, the four closing writes, FULL with ATTN; and the age limit and
REPORT-FLUSH as a close pending or a close at once. An age expiry that stands when a record completes without a close comes
before the next record that waits (R187; log 32). -/
def Obligations.ReportWriterWritesAndCloses : Prop :=
  (∀ (s : State) (x : BufferId), s.live → s.path.reportDone = true → s.part.report.filling = some x →
    let p := s.part
    let r := p.report
    let base := headerOffset x
    let t := { s with path := { s.path with reportDone := false } }
    let gives (q : Part) : Prop := exec .reportWordWriteComplete s = .next (t.after q)
    let slot (i : Nat) : Nat := base + 0x20 + 4 * r.recordCount + i
    let counted (q : Part) : Part := { q with report := { q.report with
      recordCount := r.recordCount + 1, job := .none
      age := if r.recordCount = 0 then ⟨true, 0, false⟩ else r.age } }
    let closesAs (q : Part) (reason : CloseReason) : Part := { q with report := { q.report with
      age := ⟨false, 0, false⟩, closePending := none, job := .closing reason p.clock.ms 0 } }.request .reportWriter
        (base + 1) (some (BitVec.ofNat 16 (r.recordCount + 1)))
    let judged (q : Part) (group : Nat) : Part :=
      match r.closePending with
      | some reason => closesAs q reason
      | none =>
        if r.recordCount + 1 = 120 then closesAs q .count
        else if p.gen.urgentMask.getLsbD group = true then closesAs q .urgent
        else if q.report.age.due = true ∧ q.report.queue ≠ [] then
          { q with report := { q.report with job := .awaitExpiry } }
        else q
    (r.job = .takeBuffer → gives { p with report := { r with job := .none } }) ∧
    (∀ (g : Record) (i j : Fin 4), r.job = .gapWord i → r.gap = some g →
      (j.val = i.val + 1 → gives ({ p with report := { r with job := .gapWord j } }.request .reportWriter (slot j.val)
        (some (g.word j)))) ∧
      (i = 3 → gives (judged (counted { p with report := { r with gap := none } }) g.kind.group))) ∧
    (∀ (a : Record) (rest : List Record) (i j : Fin 4), r.job = .headWord i → r.queue = a :: rest →
      (j.val = i.val + 1 → gives ({ p with report := { r with job := .headWord j } }.request .reportWriter (slot j.val)
        (some (a.word j)))) ∧
      (i = 3 → a.snapshot = .notSnapshot →
        gives (judged (counted { p with report := { r with queue := rest } }) a.kind.group)) ∧
      (i = 3 → a.snapshot ≠ .notSnapshot → gives (judged (counted { p with
        report := { r with queue := rest }
        cmd := { p.cmd with disposals := p.cmd.disposals ++ [(a.snapshot, .written)] } }) a.kind.group))) ∧
    (∀ (reason : CloseReason) (clock : Word),
      let next (i : Fin 4) (w : Word) : Prop := gives ({ p with report := { r with
        job := .closing reason clock i } }.request .reportWriter (base + (i.val + 1) % 4) (some w))
      (r.job = .closing reason clock 0 → next 1 reason.word) ∧ (r.job = .closing reason clock 1 → next 2 clock) ∧
      (r.job = .closing reason clock 2 → next 3 3) ∧
      (r.job = .closing reason clock 3 →
        gives { p with report := { r.setBuffer x .full with
          lastClosed := some x, job := .none, attnHeld := false } }))) ∧
  (∀ s : State, s.live → s.part.report.age.due = true → exec .ageTimerExpiry s = .next (s.after
    ({ s.part with report := { s.part.report with age := ⟨false, 0, false⟩ } }.closeOrPend .age))) ∧
  (∀ (p : Part) (reason : CloseReason),
    (p.report.filling = none → p.closeOrPend reason = p) ∧
    (∀ x, p.report.filling = some x →
      ((p.report.job = .none ∨ p.report.job = .awaitExpiry) → p.closeOrPend reason = { p with report := { p.report with
        age := ⟨false, 0, false⟩, closePending := none, job := .closing reason p.clock.ms 0 } }.request .reportWriter
          (headerOffset x + 1) (some (BitVec.ofNat 16 p.report.recordCount))) ∧
      (∀ old clock i, p.report.job = .closing old clock i → p.closeOrPend reason = p) ∧
      ((p.report.job = .takeBuffer ∨ (∃ i, p.report.job = .gapWord i) ∨ ∃ i, p.report.job = .headWord i) →
        p.closeOrPend reason = { p with report := { p.report with
          closePending := some (p.report.closePending.getD reason) } }))) ∧
  (∀ p : Part, p.attention = true ↔ p.report.bufferA = .full ∨ p.report.bufferB = .full ∨ p.report.attnHeld = true)

/-! ## Invariants -/

/-- Every step keeps the canonical form of the frame memory and of the pending copies, and the bounds that R129, R158, R162
and R179 give. -/
def Obligations.CanonicalAndBoundedKept : Prop :=
  (∀ s t : State, s.canonical → step s = .next t → t.canonical) ∧
  (∀ s t : State, s.bounded → step s = .next t → t.bounded)

/-- R170: every step keeps what HALTED says of lines, channels, the link, the queue and the ring. -/
def Obligations.HaltedAtRestKept : Prop := ∀ s t : State, s.haltedAtRest → step s = .next t → t.haltedAtRest

/-- R46, R86, R167 and R169: every step keeps the installed tables as their commits check them: codes, prefixes and station
numbers without a double, prefixes of digits, and a general configuration in range. -/
def Obligations.TablesConsistentKept : Prop := ∀ s t : State, s.tablesConsistent → step s = .next t → t.tablesConsistent

/-- The invariants hold after reset. -/
def Obligations.InvariantsHoldAtReset : Prop :=
  State.reset.canonical ∧ State.reset.bounded ∧ State.reset.haltedAtRest ∧ State.reset.tablesConsistent
end

