-- ==== Sys2Proof/Laws/State.lean ====
section
/-! SUPPORT. Record updates: one lemma per field per update, true by rfl, and reads of an updated vector. -/

namespace Sys2Proof.Machine

/-! ### `Part.setSupervisor` -/

@[simp] theorem Part.setSupervisor_lines (p : Part) (n : Line) (v : Supervisor) : (p.setSupervisor n v).lines = p.lines := rfl
@[simp] theorem Part.setSupervisor_directory (p : Part) (n : Line) (v : Supervisor) : (p.setSupervisor n v).directory = p.directory := rfl
@[simp] theorem Part.setSupervisor_alloc (p : Part) (n : Line) (v : Supervisor) : (p.setSupervisor n v).alloc = p.alloc := rfl
@[simp] theorem Part.setSupervisor_chans (p : Part) (n : Line) (v : Supervisor) : (p.setSupervisor n v).chans = p.chans := rfl
@[simp] theorem Part.setSupervisor_codes (p : Part) (n : Line) (v : Supervisor) : (p.setSupervisor n v).codes = p.codes := rfl
@[simp] theorem Part.setSupervisor_link (p : Part) (n : Line) (v : Supervisor) : (p.setSupervisor n v).link = p.link := rfl
@[simp] theorem Part.setSupervisor_supply (p : Part) (n : Line) (v : Supervisor) : (p.setSupervisor n v).supply = p.supply := rfl
@[simp] theorem Part.setSupervisor_ring (p : Part) (n : Line) (v : Supervisor) : (p.setSupervisor n v).ring = p.ring := rfl
@[simp] theorem Part.setSupervisor_tone (p : Part) (n : Line) (v : Supervisor) : (p.setSupervisor n v).tone = p.tone := rfl
@[simp] theorem Part.setSupervisor_copies (p : Part) (n : Line) (v : Supervisor) : (p.setSupervisor n v).copies = p.copies := rfl
@[simp] theorem Part.setSupervisor_gen (p : Part) (n : Line) (v : Supervisor) : (p.setSupervisor n v).gen = p.gen := rfl
@[simp] theorem Part.setSupervisor_cmd (p : Part) (n : Line) (v : Supervisor) : (p.setSupervisor n v).cmd = p.cmd := rfl
@[simp] theorem Part.setSupervisor_report (p : Part) (n : Line) (v : Supervisor) : (p.setSupervisor n v).report = p.report := rfl
@[simp] theorem Part.setSupervisor_clock (p : Part) (n : Line) (v : Supervisor) : (p.setSupervisor n v).clock = p.clock := rfl
@[simp] theorem Part.setSupervisor_outbox (p : Part) (n : Line) (v : Supervisor) : (p.setSupervisor n v).outbox = p.outbox := rfl

/-! ### `Part.setLine` -/

@[simp] theorem Part.setLine_sup (p : Part) (n : Line) (l : LineRecord) : (p.setLine n l).sup = p.sup := rfl
@[simp] theorem Part.setLine_directory (p : Part) (n : Line) (l : LineRecord) : (p.setLine n l).directory = p.directory := rfl
@[simp] theorem Part.setLine_alloc (p : Part) (n : Line) (l : LineRecord) : (p.setLine n l).alloc = p.alloc := rfl
@[simp] theorem Part.setLine_chans (p : Part) (n : Line) (l : LineRecord) : (p.setLine n l).chans = p.chans := rfl
@[simp] theorem Part.setLine_codes (p : Part) (n : Line) (l : LineRecord) : (p.setLine n l).codes = p.codes := rfl
@[simp] theorem Part.setLine_link (p : Part) (n : Line) (l : LineRecord) : (p.setLine n l).link = p.link := rfl
@[simp] theorem Part.setLine_supply (p : Part) (n : Line) (l : LineRecord) : (p.setLine n l).supply = p.supply := rfl
@[simp] theorem Part.setLine_ring (p : Part) (n : Line) (l : LineRecord) : (p.setLine n l).ring = p.ring := rfl
@[simp] theorem Part.setLine_tone (p : Part) (n : Line) (l : LineRecord) : (p.setLine n l).tone = p.tone := rfl
@[simp] theorem Part.setLine_copies (p : Part) (n : Line) (l : LineRecord) : (p.setLine n l).copies = p.copies := rfl
@[simp] theorem Part.setLine_gen (p : Part) (n : Line) (l : LineRecord) : (p.setLine n l).gen = p.gen := rfl
@[simp] theorem Part.setLine_cmd (p : Part) (n : Line) (l : LineRecord) : (p.setLine n l).cmd = p.cmd := rfl
@[simp] theorem Part.setLine_report (p : Part) (n : Line) (l : LineRecord) : (p.setLine n l).report = p.report := rfl
@[simp] theorem Part.setLine_clock (p : Part) (n : Line) (l : LineRecord) : (p.setLine n l).clock = p.clock := rfl
@[simp] theorem Part.setLine_outbox (p : Part) (n : Line) (l : LineRecord) : (p.setLine n l).outbox = p.outbox := rfl

/-! ### `Part.setChan` -/

@[simp] theorem Part.setChan_sup (p : Part) (k : Chan) (c : ChanRecord) : (p.setChan k c).sup = p.sup := rfl
@[simp] theorem Part.setChan_lines (p : Part) (k : Chan) (c : ChanRecord) : (p.setChan k c).lines = p.lines := rfl
@[simp] theorem Part.setChan_directory (p : Part) (k : Chan) (c : ChanRecord) : (p.setChan k c).directory = p.directory := rfl
@[simp] theorem Part.setChan_alloc (p : Part) (k : Chan) (c : ChanRecord) : (p.setChan k c).alloc = p.alloc := rfl
@[simp] theorem Part.setChan_codes (p : Part) (k : Chan) (c : ChanRecord) : (p.setChan k c).codes = p.codes := rfl
@[simp] theorem Part.setChan_link (p : Part) (k : Chan) (c : ChanRecord) : (p.setChan k c).link = p.link := rfl
@[simp] theorem Part.setChan_supply (p : Part) (k : Chan) (c : ChanRecord) : (p.setChan k c).supply = p.supply := rfl
@[simp] theorem Part.setChan_ring (p : Part) (k : Chan) (c : ChanRecord) : (p.setChan k c).ring = p.ring := rfl
@[simp] theorem Part.setChan_tone (p : Part) (k : Chan) (c : ChanRecord) : (p.setChan k c).tone = p.tone := rfl
@[simp] theorem Part.setChan_copies (p : Part) (k : Chan) (c : ChanRecord) : (p.setChan k c).copies = p.copies := rfl
@[simp] theorem Part.setChan_gen (p : Part) (k : Chan) (c : ChanRecord) : (p.setChan k c).gen = p.gen := rfl
@[simp] theorem Part.setChan_cmd (p : Part) (k : Chan) (c : ChanRecord) : (p.setChan k c).cmd = p.cmd := rfl
@[simp] theorem Part.setChan_report (p : Part) (k : Chan) (c : ChanRecord) : (p.setChan k c).report = p.report := rfl
@[simp] theorem Part.setChan_clock (p : Part) (k : Chan) (c : ChanRecord) : (p.setChan k c).clock = p.clock := rfl
@[simp] theorem Part.setChan_outbox (p : Part) (k : Chan) (c : ChanRecord) : (p.setChan k c).outbox = p.outbox := rfl

/-! ### `Part.setWaiter` -/

@[simp] theorem Part.setWaiter_sup (p : Part) (n : Line) (w : Option WaitEntry) : (p.setWaiter n w).sup = p.sup := rfl
@[simp] theorem Part.setWaiter_lines (p : Part) (n : Line) (w : Option WaitEntry) : (p.setWaiter n w).lines = p.lines := rfl
@[simp] theorem Part.setWaiter_directory (p : Part) (n : Line) (w : Option WaitEntry) : (p.setWaiter n w).directory = p.directory := rfl
@[simp] theorem Part.setWaiter_chans (p : Part) (n : Line) (w : Option WaitEntry) : (p.setWaiter n w).chans = p.chans := rfl
@[simp] theorem Part.setWaiter_codes (p : Part) (n : Line) (w : Option WaitEntry) : (p.setWaiter n w).codes = p.codes := rfl
@[simp] theorem Part.setWaiter_link (p : Part) (n : Line) (w : Option WaitEntry) : (p.setWaiter n w).link = p.link := rfl
@[simp] theorem Part.setWaiter_supply (p : Part) (n : Line) (w : Option WaitEntry) : (p.setWaiter n w).supply = p.supply := rfl
@[simp] theorem Part.setWaiter_ring (p : Part) (n : Line) (w : Option WaitEntry) : (p.setWaiter n w).ring = p.ring := rfl
@[simp] theorem Part.setWaiter_tone (p : Part) (n : Line) (w : Option WaitEntry) : (p.setWaiter n w).tone = p.tone := rfl
@[simp] theorem Part.setWaiter_copies (p : Part) (n : Line) (w : Option WaitEntry) : (p.setWaiter n w).copies = p.copies := rfl
@[simp] theorem Part.setWaiter_gen (p : Part) (n : Line) (w : Option WaitEntry) : (p.setWaiter n w).gen = p.gen := rfl
@[simp] theorem Part.setWaiter_cmd (p : Part) (n : Line) (w : Option WaitEntry) : (p.setWaiter n w).cmd = p.cmd := rfl
@[simp] theorem Part.setWaiter_report (p : Part) (n : Line) (w : Option WaitEntry) : (p.setWaiter n w).report = p.report := rfl
@[simp] theorem Part.setWaiter_clock (p : Part) (n : Line) (w : Option WaitEntry) : (p.setWaiter n w).clock = p.clock := rfl
@[simp] theorem Part.setWaiter_outbox (p : Part) (n : Line) (w : Option WaitEntry) : (p.setWaiter n w).outbox = p.outbox := rfl

/-! ### `Part.setTonePosition` -/

@[simp] theorem Part.setTonePosition_sup (p : Part) (n : Line) (v : TonePosition) : (p.setTonePosition n v).sup = p.sup := rfl
@[simp] theorem Part.setTonePosition_lines (p : Part) (n : Line) (v : TonePosition) : (p.setTonePosition n v).lines = p.lines := rfl
@[simp] theorem Part.setTonePosition_directory (p : Part) (n : Line) (v : TonePosition) : (p.setTonePosition n v).directory = p.directory := rfl
@[simp] theorem Part.setTonePosition_alloc (p : Part) (n : Line) (v : TonePosition) : (p.setTonePosition n v).alloc = p.alloc := rfl
@[simp] theorem Part.setTonePosition_chans (p : Part) (n : Line) (v : TonePosition) : (p.setTonePosition n v).chans = p.chans := rfl
@[simp] theorem Part.setTonePosition_codes (p : Part) (n : Line) (v : TonePosition) : (p.setTonePosition n v).codes = p.codes := rfl
@[simp] theorem Part.setTonePosition_link (p : Part) (n : Line) (v : TonePosition) : (p.setTonePosition n v).link = p.link := rfl
@[simp] theorem Part.setTonePosition_supply (p : Part) (n : Line) (v : TonePosition) : (p.setTonePosition n v).supply = p.supply := rfl
@[simp] theorem Part.setTonePosition_ring (p : Part) (n : Line) (v : TonePosition) : (p.setTonePosition n v).ring = p.ring := rfl
@[simp] theorem Part.setTonePosition_copies (p : Part) (n : Line) (v : TonePosition) : (p.setTonePosition n v).copies = p.copies := rfl
@[simp] theorem Part.setTonePosition_gen (p : Part) (n : Line) (v : TonePosition) : (p.setTonePosition n v).gen = p.gen := rfl
@[simp] theorem Part.setTonePosition_cmd (p : Part) (n : Line) (v : TonePosition) : (p.setTonePosition n v).cmd = p.cmd := rfl
@[simp] theorem Part.setTonePosition_report (p : Part) (n : Line) (v : TonePosition) : (p.setTonePosition n v).report = p.report := rfl
@[simp] theorem Part.setTonePosition_clock (p : Part) (n : Line) (v : TonePosition) : (p.setTonePosition n v).clock = p.clock := rfl
@[simp] theorem Part.setTonePosition_outbox (p : Part) (n : Line) (v : TonePosition) : (p.setTonePosition n v).outbox = p.outbox := rfl

/-! ### `Part.dropWake` -/

@[simp] theorem Part.dropWake_sup (p : Part) : p.dropWake.sup = p.sup := rfl
@[simp] theorem Part.dropWake_lines (p : Part) : p.dropWake.lines = p.lines := rfl
@[simp] theorem Part.dropWake_directory (p : Part) : p.dropWake.directory = p.directory := rfl
@[simp] theorem Part.dropWake_alloc (p : Part) : p.dropWake.alloc = p.alloc := rfl
@[simp] theorem Part.dropWake_chans (p : Part) : p.dropWake.chans = p.chans := rfl
@[simp] theorem Part.dropWake_codes (p : Part) : p.dropWake.codes = p.codes := rfl
@[simp] theorem Part.dropWake_supply (p : Part) : p.dropWake.supply = p.supply := rfl
@[simp] theorem Part.dropWake_ring (p : Part) : p.dropWake.ring = p.ring := rfl
@[simp] theorem Part.dropWake_tone (p : Part) : p.dropWake.tone = p.tone := rfl
@[simp] theorem Part.dropWake_copies (p : Part) : p.dropWake.copies = p.copies := rfl
@[simp] theorem Part.dropWake_gen (p : Part) : p.dropWake.gen = p.gen := rfl
@[simp] theorem Part.dropWake_cmd (p : Part) : p.dropWake.cmd = p.cmd := rfl
@[simp] theorem Part.dropWake_report (p : Part) : p.dropWake.report = p.report := rfl
@[simp] theorem Part.dropWake_clock (p : Part) : p.dropWake.clock = p.clock := rfl
@[simp] theorem Part.dropWake_outbox (p : Part) : p.dropWake.outbox = p.outbox := rfl
@[simp] theorem Part.dropWake_link (p : Part) : p.dropWake.link = { p.link with wakeEdge := false } := rfl

/-! ### `Part.setLong` -/

@[simp] theorem Part.setLong_sup (p : Part) (c : LongCommand) : (p.setLong c).sup = p.sup := rfl
@[simp] theorem Part.setLong_lines (p : Part) (c : LongCommand) : (p.setLong c).lines = p.lines := rfl
@[simp] theorem Part.setLong_directory (p : Part) (c : LongCommand) : (p.setLong c).directory = p.directory := rfl
@[simp] theorem Part.setLong_alloc (p : Part) (c : LongCommand) : (p.setLong c).alloc = p.alloc := rfl
@[simp] theorem Part.setLong_chans (p : Part) (c : LongCommand) : (p.setLong c).chans = p.chans := rfl
@[simp] theorem Part.setLong_codes (p : Part) (c : LongCommand) : (p.setLong c).codes = p.codes := rfl
@[simp] theorem Part.setLong_link (p : Part) (c : LongCommand) : (p.setLong c).link = p.link := rfl
@[simp] theorem Part.setLong_supply (p : Part) (c : LongCommand) : (p.setLong c).supply = p.supply := rfl
@[simp] theorem Part.setLong_ring (p : Part) (c : LongCommand) : (p.setLong c).ring = p.ring := rfl
@[simp] theorem Part.setLong_tone (p : Part) (c : LongCommand) : (p.setLong c).tone = p.tone := rfl
@[simp] theorem Part.setLong_copies (p : Part) (c : LongCommand) : (p.setLong c).copies = p.copies := rfl
@[simp] theorem Part.setLong_gen (p : Part) (c : LongCommand) : (p.setLong c).gen = p.gen := rfl
@[simp] theorem Part.setLong_report (p : Part) (c : LongCommand) : (p.setLong c).report = p.report := rfl
@[simp] theorem Part.setLong_clock (p : Part) (c : LongCommand) : (p.setLong c).clock = p.clock := rfl
@[simp] theorem Part.setLong_outbox (p : Part) (c : LongCommand) : (p.setLong c).outbox = p.outbox := rfl

/-! ### `Part.setLinkChanges` -/

@[simp] theorem Part.setLinkChanges_sup (p : Part) (k : Chan) (l : List LinkChange) : (p.setLinkChanges k l).sup = p.sup := rfl
@[simp] theorem Part.setLinkChanges_lines (p : Part) (k : Chan) (l : List LinkChange) : (p.setLinkChanges k l).lines = p.lines := rfl
@[simp] theorem Part.setLinkChanges_directory (p : Part) (k : Chan) (l : List LinkChange) : (p.setLinkChanges k l).directory = p.directory := rfl
@[simp] theorem Part.setLinkChanges_alloc (p : Part) (k : Chan) (l : List LinkChange) : (p.setLinkChanges k l).alloc = p.alloc := rfl
@[simp] theorem Part.setLinkChanges_codes (p : Part) (k : Chan) (l : List LinkChange) : (p.setLinkChanges k l).codes = p.codes := rfl
@[simp] theorem Part.setLinkChanges_link (p : Part) (k : Chan) (l : List LinkChange) : (p.setLinkChanges k l).link = p.link := rfl
@[simp] theorem Part.setLinkChanges_supply (p : Part) (k : Chan) (l : List LinkChange) : (p.setLinkChanges k l).supply = p.supply := rfl
@[simp] theorem Part.setLinkChanges_ring (p : Part) (k : Chan) (l : List LinkChange) : (p.setLinkChanges k l).ring = p.ring := rfl
@[simp] theorem Part.setLinkChanges_tone (p : Part) (k : Chan) (l : List LinkChange) : (p.setLinkChanges k l).tone = p.tone := rfl
@[simp] theorem Part.setLinkChanges_copies (p : Part) (k : Chan) (l : List LinkChange) : (p.setLinkChanges k l).copies = p.copies := rfl
@[simp] theorem Part.setLinkChanges_gen (p : Part) (k : Chan) (l : List LinkChange) : (p.setLinkChanges k l).gen = p.gen := rfl
@[simp] theorem Part.setLinkChanges_cmd (p : Part) (k : Chan) (l : List LinkChange) : (p.setLinkChanges k l).cmd = p.cmd := rfl
@[simp] theorem Part.setLinkChanges_report (p : Part) (k : Chan) (l : List LinkChange) : (p.setLinkChanges k l).report = p.report := rfl
@[simp] theorem Part.setLinkChanges_clock (p : Part) (k : Chan) (l : List LinkChange) : (p.setLinkChanges k l).clock = p.clock := rfl
@[simp] theorem Part.setLinkChanges_outbox (p : Part) (k : Chan) (l : List LinkChange) : (p.setLinkChanges k l).outbox = p.outbox := rfl

/-! ### `Part.setPartner` -/

@[simp] theorem Part.setPartner_sup (p : Part) (n : Line) (x : Option Partner) (r : Option Role) : (p.setPartner n x r).sup = p.sup := rfl
@[simp] theorem Part.setPartner_directory (p : Part) (n : Line) (x : Option Partner) (r : Option Role) : (p.setPartner n x r).directory = p.directory := rfl
@[simp] theorem Part.setPartner_alloc (p : Part) (n : Line) (x : Option Partner) (r : Option Role) : (p.setPartner n x r).alloc = p.alloc := rfl
@[simp] theorem Part.setPartner_chans (p : Part) (n : Line) (x : Option Partner) (r : Option Role) : (p.setPartner n x r).chans = p.chans := rfl
@[simp] theorem Part.setPartner_codes (p : Part) (n : Line) (x : Option Partner) (r : Option Role) : (p.setPartner n x r).codes = p.codes := rfl
@[simp] theorem Part.setPartner_link (p : Part) (n : Line) (x : Option Partner) (r : Option Role) : (p.setPartner n x r).link = p.link := rfl
@[simp] theorem Part.setPartner_supply (p : Part) (n : Line) (x : Option Partner) (r : Option Role) : (p.setPartner n x r).supply = p.supply := rfl
@[simp] theorem Part.setPartner_ring (p : Part) (n : Line) (x : Option Partner) (r : Option Role) : (p.setPartner n x r).ring = p.ring := rfl
@[simp] theorem Part.setPartner_tone (p : Part) (n : Line) (x : Option Partner) (r : Option Role) : (p.setPartner n x r).tone = p.tone := rfl
@[simp] theorem Part.setPartner_copies (p : Part) (n : Line) (x : Option Partner) (r : Option Role) : (p.setPartner n x r).copies = p.copies := rfl
@[simp] theorem Part.setPartner_gen (p : Part) (n : Line) (x : Option Partner) (r : Option Role) : (p.setPartner n x r).gen = p.gen := rfl
@[simp] theorem Part.setPartner_cmd (p : Part) (n : Line) (x : Option Partner) (r : Option Role) : (p.setPartner n x r).cmd = p.cmd := rfl
@[simp] theorem Part.setPartner_report (p : Part) (n : Line) (x : Option Partner) (r : Option Role) : (p.setPartner n x r).report = p.report := rfl
@[simp] theorem Part.setPartner_clock (p : Part) (n : Line) (x : Option Partner) (r : Option Role) : (p.setPartner n x r).clock = p.clock := rfl
@[simp] theorem Part.setPartner_outbox (p : Part) (n : Line) (x : Option Partner) (r : Option Role) : (p.setPartner n x r).outbox = p.outbox := rfl

/-! ### `Part.setChanPartner` -/

@[simp] theorem Part.setChanPartner_sup (p : Part) (k : Chan) (x : Option Line) : (p.setChanPartner k x).sup = p.sup := rfl
@[simp] theorem Part.setChanPartner_lines (p : Part) (k : Chan) (x : Option Line) : (p.setChanPartner k x).lines = p.lines := rfl
@[simp] theorem Part.setChanPartner_directory (p : Part) (k : Chan) (x : Option Line) : (p.setChanPartner k x).directory = p.directory := rfl
@[simp] theorem Part.setChanPartner_alloc (p : Part) (k : Chan) (x : Option Line) : (p.setChanPartner k x).alloc = p.alloc := rfl
@[simp] theorem Part.setChanPartner_codes (p : Part) (k : Chan) (x : Option Line) : (p.setChanPartner k x).codes = p.codes := rfl
@[simp] theorem Part.setChanPartner_link (p : Part) (k : Chan) (x : Option Line) : (p.setChanPartner k x).link = p.link := rfl
@[simp] theorem Part.setChanPartner_supply (p : Part) (k : Chan) (x : Option Line) : (p.setChanPartner k x).supply = p.supply := rfl
@[simp] theorem Part.setChanPartner_ring (p : Part) (k : Chan) (x : Option Line) : (p.setChanPartner k x).ring = p.ring := rfl
@[simp] theorem Part.setChanPartner_tone (p : Part) (k : Chan) (x : Option Line) : (p.setChanPartner k x).tone = p.tone := rfl
@[simp] theorem Part.setChanPartner_copies (p : Part) (k : Chan) (x : Option Line) : (p.setChanPartner k x).copies = p.copies := rfl
@[simp] theorem Part.setChanPartner_gen (p : Part) (k : Chan) (x : Option Line) : (p.setChanPartner k x).gen = p.gen := rfl
@[simp] theorem Part.setChanPartner_cmd (p : Part) (k : Chan) (x : Option Line) : (p.setChanPartner k x).cmd = p.cmd := rfl
@[simp] theorem Part.setChanPartner_report (p : Part) (k : Chan) (x : Option Line) : (p.setChanPartner k x).report = p.report := rfl
@[simp] theorem Part.setChanPartner_clock (p : Part) (k : Chan) (x : Option Line) : (p.setChanPartner k x).clock = p.clock := rfl
@[simp] theorem Part.setChanPartner_outbox (p : Part) (k : Chan) (x : Option Line) : (p.setChanPartner k x).outbox = p.outbox := rfl

/-! ### `Part.request` -/

@[simp] theorem Part.request_sup (p : Part) (who : Requester) (off : Nat) (d : Option Word) : (p.request who off d).sup = p.sup := rfl
@[simp] theorem Part.request_lines (p : Part) (who : Requester) (off : Nat) (d : Option Word) : (p.request who off d).lines = p.lines := rfl
@[simp] theorem Part.request_directory (p : Part) (who : Requester) (off : Nat) (d : Option Word) : (p.request who off d).directory = p.directory := rfl
@[simp] theorem Part.request_alloc (p : Part) (who : Requester) (off : Nat) (d : Option Word) : (p.request who off d).alloc = p.alloc := rfl
@[simp] theorem Part.request_chans (p : Part) (who : Requester) (off : Nat) (d : Option Word) : (p.request who off d).chans = p.chans := rfl
@[simp] theorem Part.request_codes (p : Part) (who : Requester) (off : Nat) (d : Option Word) : (p.request who off d).codes = p.codes := rfl
@[simp] theorem Part.request_link (p : Part) (who : Requester) (off : Nat) (d : Option Word) : (p.request who off d).link = p.link := rfl
@[simp] theorem Part.request_supply (p : Part) (who : Requester) (off : Nat) (d : Option Word) : (p.request who off d).supply = p.supply := rfl
@[simp] theorem Part.request_ring (p : Part) (who : Requester) (off : Nat) (d : Option Word) : (p.request who off d).ring = p.ring := rfl
@[simp] theorem Part.request_tone (p : Part) (who : Requester) (off : Nat) (d : Option Word) : (p.request who off d).tone = p.tone := rfl
@[simp] theorem Part.request_copies (p : Part) (who : Requester) (off : Nat) (d : Option Word) : (p.request who off d).copies = p.copies := rfl
@[simp] theorem Part.request_gen (p : Part) (who : Requester) (off : Nat) (d : Option Word) : (p.request who off d).gen = p.gen := rfl
@[simp] theorem Part.request_cmd (p : Part) (who : Requester) (off : Nat) (d : Option Word) : (p.request who off d).cmd = p.cmd := rfl
@[simp] theorem Part.request_report (p : Part) (who : Requester) (off : Nat) (d : Option Word) : (p.request who off d).report = p.report := rfl
@[simp] theorem Part.request_clock (p : Part) (who : Requester) (off : Nat) (d : Option Word) : (p.request who off d).clock = p.clock := rfl

/-! ### Values of the updated field -/

@[simp] theorem Part.setSupervisor_sup (p : Part) (n : Line) (v : Supervisor) :
    (p.setSupervisor n v).sup = p.sup.set n.val v := rfl
@[simp] theorem Part.setLine_lines (p : Part) (n : Line) (l : LineRecord) :
    (p.setLine n l).lines = p.lines.set n.val l := rfl
@[simp] theorem Part.setChan_chans (p : Part) (k : Chan) (c : ChanRecord) :
    (p.setChan k c).chans = p.chans.set k.val c := rfl
@[simp] theorem Part.setLong_long (p : Part) (c : LongCommand) : (p.setLong c).cmd.long = c := rfl
@[simp] theorem Part.setLong_mode (p : Part) (c : LongCommand) : (p.setLong c).cmd.mode = p.cmd.mode := rfl
@[simp] theorem Part.setWaiter_waiters (p : Part) (n : Line) (w : Option WaitEntry) :
    (p.setWaiter n w).alloc.waiters = p.alloc.waiters.set n.val w := rfl
@[simp] theorem Part.setWaiter_occupancy (p : Part) (n : Line) (w : Option WaitEntry) :
    (p.setWaiter n w).alloc.occupancy = p.alloc.occupancy := rfl
@[simp] theorem Part.setWaiter_pointers (p : Part) (n : Line) (w : Option WaitEntry) :
    (p.setWaiter n w).alloc.pointers = p.alloc.pointers := rfl
@[simp] theorem Part.setTonePosition_positions (p : Part) (n : Line) (v : TonePosition) :
    (p.setTonePosition n v).tone.positions = p.tone.positions.set n.val v := rfl
@[simp] theorem Part.setTonePosition_descriptors (p : Part) (n : Line) (v : TonePosition) :
    (p.setTonePosition n v).tone.descriptors = p.tone.descriptors := rfl
@[simp] theorem Part.setTonePosition_cadence (p : Part) (n : Line) (v : TonePosition) :
    (p.setTonePosition n v).tone.cadence = p.tone.cadence := rfl

/-- Reading a vector after one entry has been replaced. -/
theorem getElem_set_fin {α : Type} {m : Nat} (v : Vector α m) (i j : Fin m) (x : α) :
    (v.set i.val x)[j] = if i = j then x else v[j] := by
  simp only [Fin.getElem_fin, Vector.getElem_set, Fin.ext_iff]

@[simp] theorem getElem_set_fin_same {α : Type} {m : Nat} (v : Vector α m) (i : Fin m) (x : α) :
    (v.set i.val x)[i] = x := by simp

/-! ### `Part.body`: everything but the reports -/

@[simp] theorem Part.body_sup (p : Part) : p.body.sup = p.sup := rfl
@[simp] theorem Part.body_lines (p : Part) : p.body.lines = p.lines := rfl
@[simp] theorem Part.body_directory (p : Part) : p.body.directory = p.directory := rfl
@[simp] theorem Part.body_alloc (p : Part) : p.body.alloc = p.alloc := rfl
@[simp] theorem Part.body_chans (p : Part) : p.body.chans = p.chans := rfl
@[simp] theorem Part.body_codes (p : Part) : p.body.codes = p.codes := rfl
@[simp] theorem Part.body_link (p : Part) : p.body.link = p.link := rfl
@[simp] theorem Part.body_supply (p : Part) : p.body.supply = p.supply := rfl
@[simp] theorem Part.body_ring (p : Part) : p.body.ring = p.ring := rfl
@[simp] theorem Part.body_tone (p : Part) : p.body.tone = p.tone := rfl
@[simp] theorem Part.body_copies (p : Part) : p.body.copies = p.copies := rfl
@[simp] theorem Part.body_gen (p : Part) : p.body.gen = p.gen := rfl
@[simp] theorem Part.body_clock (p : Part) : p.body.clock = p.clock := rfl
@[simp] theorem Part.body_mode (p : Part) : p.body.cmd.mode = p.cmd.mode := rfl
@[simp] theorem Part.body_sequence (p : Part) : p.body.cmd.sequence = p.cmd.sequence := rfl
@[simp] theorem Part.body_starting (p : Part) : p.body.cmd.starting = p.cmd.starting := rfl
@[simp] theorem Part.body_body (p : Part) : p.body.body = p.body := rfl

end Sys2Proof.Machine
end

