-- ==== Sys2Proof/Laws/Ops.lean ====
section
/-! SUPPORT. What handing a record, asking for an echo and the end of an event can change: the reports and the command unit's
echo, nothing of the body. -/

namespace Sys2Proof.Machine

/-! ## Records and requests -/

@[simp] theorem Part.enqueueRecord_body (p : Part) (r : Record) : (p.enqueueRecord r).body = p.body := by
  unfold Part.enqueueRecord; split <;> rfl

@[simp] theorem Part.hand_body (p : Part) (kind : RecordKind) (subject : Subject) (a b : Word) (tag : SnapshotTag) :
    (p.hand kind subject a b tag).body = p.body := by
  unfold Part.hand; split
  · exact Part.enqueueRecord_body _ _
  · rfl

@[simp] theorem Part.request_body (p : Part) (who : Requester) (off : Nat) (d : Option Word) :
    (p.request who off d).body = p.body := rfl

@[simp] theorem Part.tableRefused_body (p : Part) (t : TableRecord) (reason : RefusalReason) :
    (p.tableRefused t reason).body = p.body := Part.hand_body _ _ _ _ _ _

@[simp] theorem Part.requestEcho_body (p : Part) (w : Word) : (p.requestEcho w).body = p.body := by
  unfold Part.requestEcho; split <;> rfl

@[simp] theorem Part.commandEnded_body (p : Part) (code : BitVec 8) (sequence : BitVec 4) (aborted : Bool) :
    (p.commandEnded code sequence aborted).body = p.body := by
  unfold Part.commandEnded; simp

@[simp] theorem Part.setLong_body (p : Part) (c : LongCommand) : (p.setLong c).body = p.body := rfl

/-! ## The end of an event -/

@[simp] theorem Part.takeBuffer_body (p : Part) : p.takeBuffer.body = p.body := by
  unfold Part.takeBuffer; split
  · split <;> rfl
  · rfl

@[simp] theorem Part.beginRecord_body (p : Part) : p.beginRecord.body = p.body := by
  unfold Part.beginRecord; split
  · split <;> rfl
  · rfl

@[simp] theorem Part.judgeClearCalls_body (p : Part) : p.judgeClearCalls.body = p.body := by
  unfold Part.judgeClearCalls; split
  · simp
  · rfl

@[simp] theorem Part.finish_body (p : Part) : p.finish.body = p.body := by simp [Part.finish]

@[simp] theorem Part.writeClosing_body (p : Part) (x : BufferId) (r : CloseReason) (c : Word) (i : Fin 4) :
    (p.writeClosing x r c i).body = p.body := by
  unfold Part.writeClosing; split <;> rfl

@[simp] theorem Part.closeBuffer_body (p : Part) (x : BufferId) (r : CloseReason) : (p.closeBuffer x r).body = p.body := by
  unfold Part.closeBuffer; simp; rfl

@[simp] theorem Part.closeOrPend_body (p : Part) (r : CloseReason) : (p.closeOrPend r).body = p.body := by
  unfold Part.closeOrPend
  split
  · rfl
  · simp
  · simp
  · rfl
  · split <;> rfl

/-! ## An event of the blocks -/

/-- The arbiter changes the path only in what it serves. -/
theorem Path.arbitrate_keeps (h : Path) (p : Part) :
    (h.arbitrate p).resetAsserted = h.resetAsserted ∧ (h.arbitrate p).area = h.area ∧
      (h.arbitrate p).returned = h.returned ∧ (h.arbitrate p).reportDone = h.reportDone ∧
      (h.arbitrate p).echoDone = h.echoDone ∧ (h.arbitrate p).rescanDone = h.rescanDone := by
  unfold Path.arbitrate
  split
  · cases ‹MasterAccess› <;> simp [Path.startForwarded]
  · split
    · cases ‹MasterAccess› <;> simp [Path.startForwarded]
    · simp [Path.startOwn]
  · simp [Path.startOwn]
  · simp

theorem Path.takeRequests_keeps (h : Path) (p : Part) (l : List OwnRequest) :
    (h.takeRequests p l).resetAsserted = h.resetAsserted ∧ (h.takeRequests p l).area = h.area ∧
      (h.takeRequests p l).returned = h.returned ∧ (h.takeRequests p l).reportDone = h.reportDone ∧
      (h.takeRequests p l).echoDone = h.echoDone ∧ (h.takeRequests p l).rescanDone = h.rescanDone :=
  Path.arbitrate_keeps _ p

/-- While RESETN is asserted no event is taken. -/
theorem State.event_reset {s : State} {act : Part → Part} (h : s.path.resetAsserted = true) : s.event act = s := by
  simp [State.event, h]

/-- What an event does to the part. -/
theorem State.event_part {s : State} {act : Part → Part} (h : s.live) :
    (s.event act).part = { (act s.part).finish with outbox := [] } := by
  unfold State.live at h
  simp [State.event, h]

@[simp] theorem State.event_mem (s : State) (act : Part → Part) : (s.event act).mem = s.mem := by
  unfold State.event; split <;> rfl

@[simp] theorem State.event_pending (s : State) (act : Part → Part) : (s.event act).pending = s.pending := by
  unfold State.event; split <;> rfl

/-- An event changes the body of the part only by its act. -/
theorem State.event_body {s : State} {act : Part → Part} (h : s.live) :
    (s.event act).part.body = (act s.part).body := by
  rw [State.event_part h]
  exact Part.finish_body _

theorem State.event_path (s : State) (act : Part → Part) :
    (s.event act).path.resetAsserted = s.path.resetAsserted ∧ (s.event act).path.area = s.path.area ∧
      (s.event act).path.returned = s.path.returned := by
  unfold State.event
  split
  · simp
  · obtain ⟨h1, h2, h3, -⟩ := Path.takeRequests_keeps s.path (act s.part).finish (act s.part).finish.outbox
    exact ⟨h1, h2, h3⟩

/-- An event leaves everything outside the blocks alone. -/
theorem State.event_sameOutside (s : State) (act : Part → Part) : s.sameOutside (s.event act) :=
  ⟨State.event_mem s act, State.event_pending s act, State.event_path s act⟩

/-- The outbox is empty after an event. -/
theorem State.event_outbox {s : State} {act : Part → Part} (h : s.part.outbox = []) : (s.event act).part.outbox = [] := by
  unfold State.event; split
  · exact h
  · rfl

/-- A due event. -/
theorem State.eventIf_due {s : State} {due : Part → Bool} {act : Part → Part} (h : due s.part = true) :
    s.eventIf due act = s.event act := by simp [State.eventIf, h]

theorem State.eventIf_notDue {s : State} {due : Part → Bool} {act : Part → Part} (h : due s.part = false) :
    s.eventIf due act = s := by simp [State.eventIf, h]

/-- An event of the blocks while RESETN is released. -/
theorem State.event_after {s : State} {act : Part → Part} (h : s.live) : s.event act = s.after (act s.part) := by
  unfold State.live at h
  simp [State.event, State.after, Part.settled, h]

/-- A due event while RESETN is released. -/
theorem State.eventIf_after {s : State} {due : Part → Bool} {act : Part → Part} (h : s.live) (hd : due s.part = true) :
    s.eventIf due act = s.after (act s.part) := by rw [State.eventIf_due hd, State.event_after h]

@[simp] theorem Part.settled_body (q : Part) : q.settled.body = q.body := Part.finish_body q

@[simp] theorem State.after_part (s : State) (q : Part) : (s.after q).part = q.settled := rfl

@[simp] theorem State.after_mem (s : State) (q : Part) : (s.after q).mem = s.mem := rfl

@[simp] theorem State.after_pending (s : State) (q : Part) : (s.after q).pending = s.pending := rfl

/-! ## Accesses of the masters -/

@[simp] theorem State.present_part (s : State) (a : MasterAccess) : (s.present a).part = s.part := by
  unfold State.present; split <;> rfl

@[simp] theorem State.present_mem (s : State) (a : MasterAccess) : (s.present a).mem = s.mem := by
  unfold State.present; split <;> rfl

@[simp] theorem State.present_pending (s : State) (a : MasterAccess) : (s.present a).pending = s.pending := by
  unfold State.present; split <;> rfl

@[simp] theorem State.masterWrite_part (s : State) (a d : Word) : (s.masterWrite a d).part = s.part := by
  unfold State.masterWrite; split <;> simp

@[simp] theorem State.masterWrite_pending (s : State) (a d : Word) : (s.masterWrite a d).pending = s.pending := by
  unfold State.masterWrite; split <;> simp

/-- On a busy port a master write waits as any access presented does. -/
theorem State.masterWrite_busy {s : State} (a d : Word) (h : s.path.idle = false) :
    s.masterWrite a d = s.present (.write a d) := by simp [State.masterWrite, h]

/-- On a busy port a read waits as any access presented does. -/
theorem State.readWord_busy {s : State} (off : Nat) (h : s.path.idle = false) :
    s.readWord off = s.present (.read (addressOf s.path.area off)) := by simp [State.readWord, h]

/-! ## A write of a snooped window -/

/-- The write that a block takes now. -/
theorem State.snooped_after {s : State} {off : Nat} {w : Word} {act : Part → Part} (h : s.takesWrite off w) :
    s.snooped off w act = (s.served off w).after (act s.part) := by
  obtain ⟨h1, h2⟩ := h
  unfold State.live at h1
  unfold State.snooped State.served State.wholeWrite
  rw [h1]
  split at h2
  · rename_i x hx
    subst h2
    simp only [hx, if_true]
    exact State.event_after (s := { s with path := { s.path with handovers := _ } }) h1
  · rename_i hx
    simp only [hx, h2, if_true]
    exact State.event_after (s := s.storeWord _ _) h1

/-- The write that a block takes now: what memory and the part become. -/
theorem State.snooped_takes {s : State} {off : Nat} {w : Word} {act : Part → Part} (h : s.takesWrite off w) :
    (s.snooped off w act).part.body = (act s.part).body ∧
      (s.snooped off w act).pending = s.pending ∧
      (s.snooped off w act).mem =
        (if s.wholeWrite off then s.mem.write (addressOf s.path.area off).toNat w else s.mem) := by
  obtain ⟨h1, h2⟩ := h
  unfold State.live at h1
  unfold State.snooped State.wholeWrite
  rw [h1]
  split at h2
  · rename_i x hx
    subst h2
    simp only [hx, if_true]
    exact ⟨State.event_body (by exact h1), by simp, by simp⟩
  · rename_i hx
    simp only [hx, h2, if_true]
    exact ⟨State.event_body (by exact h1), by simp [State.storeWord], by simp [State.storeWord]⟩

/-- While RESETN is asserted no block takes a write. -/
theorem State.snooped_reset {s : State} {off : Nat} {w : Word} {act : Part → Part} (h : s.path.resetAsserted = true) :
    (s.snooped off w act).part = s.part := by
  simp [State.snooped, h]

/-- A write that its block does not take now is a master write of its word. -/
theorem State.snooped_waits {s : State} {off : Nat} {w : Word} {act : Part → Part} (h : ¬ s.takesWrite off w) :
    s.snooped off w act = s.masterWrite (addressOf s.path.area off) w := by
  unfold State.takesWrite State.live at h
  unfold State.snooped
  simp only
  split
  · rename_i x hr hx
    rw [if_neg]
    simpa [hr, hx] using h
  · rename_i hr hx
    rw [if_neg]
    simpa [hr, hx] using h
  · rfl

end Sys2Proof.Machine
end

