-- ==== Sys2Proof/Laws/Fields.lean ====
section
/-! SUPPORT. What each shared operation leaves of every field of the part, once and for all: the provers cite these and do
not unfold the operations. -/

namespace Sys2Proof.Machine

/-- Two parts with one body agree on every field of it. -/
theorem Part.fields_of_body {p q : Part} (h : p.body = q.body) :
    p.sup = q.sup ∧ p.lines = q.lines ∧ p.directory = q.directory ∧ p.alloc = q.alloc ∧ p.chans = q.chans ∧
      p.codes = q.codes ∧ p.link = q.link ∧ p.supply = q.supply ∧ p.ring = q.ring ∧ p.tone = q.tone ∧
      p.copies = q.copies ∧ p.gen = q.gen ∧ p.clock = q.clock ∧ p.cmd.mode = q.cmd.mode ∧
      p.cmd.starting = q.cmd.starting := by
  have e0 : p.body.sup = q.body.sup := by rw [h]
  have e1 : p.body.lines = q.body.lines := by rw [h]
  have e2 : p.body.directory = q.body.directory := by rw [h]
  have e3 : p.body.alloc = q.body.alloc := by rw [h]
  have e4 : p.body.chans = q.body.chans := by rw [h]
  have e5 : p.body.codes = q.body.codes := by rw [h]
  have e6 : p.body.link = q.body.link := by rw [h]
  have e7 : p.body.supply = q.body.supply := by rw [h]
  have e8 : p.body.ring = q.body.ring := by rw [h]
  have e9 : p.body.tone = q.body.tone := by rw [h]
  have e10 : p.body.copies = q.body.copies := by rw [h]
  have e11 : p.body.gen = q.body.gen := by rw [h]
  have e12 : p.body.clock = q.body.clock := by rw [h]
  have e13 : p.body.cmd.mode = q.body.cmd.mode := by rw [h]
  have e14 : p.body.cmd.starting = q.body.cmd.starting := by rw [h]
  exact ⟨e0, e1, e2, e3, e4, e5, e6, e7, e8, e9, e10, e11, e12, e13, e14⟩

/-! ### `Part.hand` -/

@[simp] theorem Part.hand_sup (p : Part) (kind : RecordKind) (x : Subject) (a b : Word) (tag : SnapshotTag) : (p.hand kind x a b tag).sup = p.sup :=
  (Part.fields_of_body (Part.hand_body p kind x a b tag)).1
@[simp] theorem Part.hand_lines (p : Part) (kind : RecordKind) (x : Subject) (a b : Word) (tag : SnapshotTag) : (p.hand kind x a b tag).lines = p.lines :=
  (Part.fields_of_body (Part.hand_body p kind x a b tag)).2.1
@[simp] theorem Part.hand_directory (p : Part) (kind : RecordKind) (x : Subject) (a b : Word) (tag : SnapshotTag) : (p.hand kind x a b tag).directory = p.directory :=
  (Part.fields_of_body (Part.hand_body p kind x a b tag)).2.2.1
@[simp] theorem Part.hand_alloc (p : Part) (kind : RecordKind) (x : Subject) (a b : Word) (tag : SnapshotTag) : (p.hand kind x a b tag).alloc = p.alloc :=
  (Part.fields_of_body (Part.hand_body p kind x a b tag)).2.2.2.1
@[simp] theorem Part.hand_chans (p : Part) (kind : RecordKind) (x : Subject) (a b : Word) (tag : SnapshotTag) : (p.hand kind x a b tag).chans = p.chans :=
  (Part.fields_of_body (Part.hand_body p kind x a b tag)).2.2.2.2.1
@[simp] theorem Part.hand_codes (p : Part) (kind : RecordKind) (x : Subject) (a b : Word) (tag : SnapshotTag) : (p.hand kind x a b tag).codes = p.codes :=
  (Part.fields_of_body (Part.hand_body p kind x a b tag)).2.2.2.2.2.1
@[simp] theorem Part.hand_link (p : Part) (kind : RecordKind) (x : Subject) (a b : Word) (tag : SnapshotTag) : (p.hand kind x a b tag).link = p.link :=
  (Part.fields_of_body (Part.hand_body p kind x a b tag)).2.2.2.2.2.2.1
@[simp] theorem Part.hand_supply (p : Part) (kind : RecordKind) (x : Subject) (a b : Word) (tag : SnapshotTag) : (p.hand kind x a b tag).supply = p.supply :=
  (Part.fields_of_body (Part.hand_body p kind x a b tag)).2.2.2.2.2.2.2.1
@[simp] theorem Part.hand_ring (p : Part) (kind : RecordKind) (x : Subject) (a b : Word) (tag : SnapshotTag) : (p.hand kind x a b tag).ring = p.ring :=
  (Part.fields_of_body (Part.hand_body p kind x a b tag)).2.2.2.2.2.2.2.2.1
@[simp] theorem Part.hand_tone (p : Part) (kind : RecordKind) (x : Subject) (a b : Word) (tag : SnapshotTag) : (p.hand kind x a b tag).tone = p.tone :=
  (Part.fields_of_body (Part.hand_body p kind x a b tag)).2.2.2.2.2.2.2.2.2.1
@[simp] theorem Part.hand_copies (p : Part) (kind : RecordKind) (x : Subject) (a b : Word) (tag : SnapshotTag) : (p.hand kind x a b tag).copies = p.copies :=
  (Part.fields_of_body (Part.hand_body p kind x a b tag)).2.2.2.2.2.2.2.2.2.2.1
@[simp] theorem Part.hand_gen (p : Part) (kind : RecordKind) (x : Subject) (a b : Word) (tag : SnapshotTag) : (p.hand kind x a b tag).gen = p.gen :=
  (Part.fields_of_body (Part.hand_body p kind x a b tag)).2.2.2.2.2.2.2.2.2.2.2.1
@[simp] theorem Part.hand_clock (p : Part) (kind : RecordKind) (x : Subject) (a b : Word) (tag : SnapshotTag) : (p.hand kind x a b tag).clock = p.clock :=
  (Part.fields_of_body (Part.hand_body p kind x a b tag)).2.2.2.2.2.2.2.2.2.2.2.2.1
@[simp] theorem Part.hand_mode (p : Part) (kind : RecordKind) (x : Subject) (a b : Word) (tag : SnapshotTag) : (p.hand kind x a b tag).cmd.mode = p.cmd.mode :=
  (Part.fields_of_body (Part.hand_body p kind x a b tag)).2.2.2.2.2.2.2.2.2.2.2.2.2.1

/-! ### `Part.commandEnded` -/

@[simp] theorem Part.commandEnded_sup (p : Part) (code : BitVec 8) (sequence : BitVec 4) (aborted : Bool) : (p.commandEnded code sequence aborted).sup = p.sup :=
  (Part.fields_of_body (Part.commandEnded_body p code sequence aborted)).1
@[simp] theorem Part.commandEnded_lines (p : Part) (code : BitVec 8) (sequence : BitVec 4) (aborted : Bool) : (p.commandEnded code sequence aborted).lines = p.lines :=
  (Part.fields_of_body (Part.commandEnded_body p code sequence aborted)).2.1
@[simp] theorem Part.commandEnded_directory (p : Part) (code : BitVec 8) (sequence : BitVec 4) (aborted : Bool) : (p.commandEnded code sequence aborted).directory = p.directory :=
  (Part.fields_of_body (Part.commandEnded_body p code sequence aborted)).2.2.1
@[simp] theorem Part.commandEnded_alloc (p : Part) (code : BitVec 8) (sequence : BitVec 4) (aborted : Bool) : (p.commandEnded code sequence aborted).alloc = p.alloc :=
  (Part.fields_of_body (Part.commandEnded_body p code sequence aborted)).2.2.2.1
@[simp] theorem Part.commandEnded_chans (p : Part) (code : BitVec 8) (sequence : BitVec 4) (aborted : Bool) : (p.commandEnded code sequence aborted).chans = p.chans :=
  (Part.fields_of_body (Part.commandEnded_body p code sequence aborted)).2.2.2.2.1
@[simp] theorem Part.commandEnded_codes (p : Part) (code : BitVec 8) (sequence : BitVec 4) (aborted : Bool) : (p.commandEnded code sequence aborted).codes = p.codes :=
  (Part.fields_of_body (Part.commandEnded_body p code sequence aborted)).2.2.2.2.2.1
@[simp] theorem Part.commandEnded_link (p : Part) (code : BitVec 8) (sequence : BitVec 4) (aborted : Bool) : (p.commandEnded code sequence aborted).link = p.link :=
  (Part.fields_of_body (Part.commandEnded_body p code sequence aborted)).2.2.2.2.2.2.1
@[simp] theorem Part.commandEnded_supply (p : Part) (code : BitVec 8) (sequence : BitVec 4) (aborted : Bool) : (p.commandEnded code sequence aborted).supply = p.supply :=
  (Part.fields_of_body (Part.commandEnded_body p code sequence aborted)).2.2.2.2.2.2.2.1
@[simp] theorem Part.commandEnded_ring (p : Part) (code : BitVec 8) (sequence : BitVec 4) (aborted : Bool) : (p.commandEnded code sequence aborted).ring = p.ring :=
  (Part.fields_of_body (Part.commandEnded_body p code sequence aborted)).2.2.2.2.2.2.2.2.1
@[simp] theorem Part.commandEnded_tone (p : Part) (code : BitVec 8) (sequence : BitVec 4) (aborted : Bool) : (p.commandEnded code sequence aborted).tone = p.tone :=
  (Part.fields_of_body (Part.commandEnded_body p code sequence aborted)).2.2.2.2.2.2.2.2.2.1
@[simp] theorem Part.commandEnded_copies (p : Part) (code : BitVec 8) (sequence : BitVec 4) (aborted : Bool) : (p.commandEnded code sequence aborted).copies = p.copies :=
  (Part.fields_of_body (Part.commandEnded_body p code sequence aborted)).2.2.2.2.2.2.2.2.2.2.1
@[simp] theorem Part.commandEnded_gen (p : Part) (code : BitVec 8) (sequence : BitVec 4) (aborted : Bool) : (p.commandEnded code sequence aborted).gen = p.gen :=
  (Part.fields_of_body (Part.commandEnded_body p code sequence aborted)).2.2.2.2.2.2.2.2.2.2.2.1
@[simp] theorem Part.commandEnded_clock (p : Part) (code : BitVec 8) (sequence : BitVec 4) (aborted : Bool) : (p.commandEnded code sequence aborted).clock = p.clock :=
  (Part.fields_of_body (Part.commandEnded_body p code sequence aborted)).2.2.2.2.2.2.2.2.2.2.2.2.1
@[simp] theorem Part.commandEnded_mode (p : Part) (code : BitVec 8) (sequence : BitVec 4) (aborted : Bool) : (p.commandEnded code sequence aborted).cmd.mode = p.cmd.mode :=
  (Part.fields_of_body (Part.commandEnded_body p code sequence aborted)).2.2.2.2.2.2.2.2.2.2.2.2.2.1

/-! ### `Part.requestEcho` -/

@[simp] theorem Part.requestEcho_sup (p : Part) (w : Word) : (p.requestEcho w).sup = p.sup :=
  (Part.fields_of_body (Part.requestEcho_body p w)).1
@[simp] theorem Part.requestEcho_lines (p : Part) (w : Word) : (p.requestEcho w).lines = p.lines :=
  (Part.fields_of_body (Part.requestEcho_body p w)).2.1
@[simp] theorem Part.requestEcho_directory (p : Part) (w : Word) : (p.requestEcho w).directory = p.directory :=
  (Part.fields_of_body (Part.requestEcho_body p w)).2.2.1
@[simp] theorem Part.requestEcho_alloc (p : Part) (w : Word) : (p.requestEcho w).alloc = p.alloc :=
  (Part.fields_of_body (Part.requestEcho_body p w)).2.2.2.1
@[simp] theorem Part.requestEcho_chans (p : Part) (w : Word) : (p.requestEcho w).chans = p.chans :=
  (Part.fields_of_body (Part.requestEcho_body p w)).2.2.2.2.1
@[simp] theorem Part.requestEcho_codes (p : Part) (w : Word) : (p.requestEcho w).codes = p.codes :=
  (Part.fields_of_body (Part.requestEcho_body p w)).2.2.2.2.2.1
@[simp] theorem Part.requestEcho_link (p : Part) (w : Word) : (p.requestEcho w).link = p.link :=
  (Part.fields_of_body (Part.requestEcho_body p w)).2.2.2.2.2.2.1
@[simp] theorem Part.requestEcho_supply (p : Part) (w : Word) : (p.requestEcho w).supply = p.supply :=
  (Part.fields_of_body (Part.requestEcho_body p w)).2.2.2.2.2.2.2.1
@[simp] theorem Part.requestEcho_ring (p : Part) (w : Word) : (p.requestEcho w).ring = p.ring :=
  (Part.fields_of_body (Part.requestEcho_body p w)).2.2.2.2.2.2.2.2.1
@[simp] theorem Part.requestEcho_tone (p : Part) (w : Word) : (p.requestEcho w).tone = p.tone :=
  (Part.fields_of_body (Part.requestEcho_body p w)).2.2.2.2.2.2.2.2.2.1
@[simp] theorem Part.requestEcho_copies (p : Part) (w : Word) : (p.requestEcho w).copies = p.copies :=
  (Part.fields_of_body (Part.requestEcho_body p w)).2.2.2.2.2.2.2.2.2.2.1
@[simp] theorem Part.requestEcho_gen (p : Part) (w : Word) : (p.requestEcho w).gen = p.gen :=
  (Part.fields_of_body (Part.requestEcho_body p w)).2.2.2.2.2.2.2.2.2.2.2.1
@[simp] theorem Part.requestEcho_clock (p : Part) (w : Word) : (p.requestEcho w).clock = p.clock :=
  (Part.fields_of_body (Part.requestEcho_body p w)).2.2.2.2.2.2.2.2.2.2.2.2.1
@[simp] theorem Part.requestEcho_mode (p : Part) (w : Word) : (p.requestEcho w).cmd.mode = p.cmd.mode :=
  (Part.fields_of_body (Part.requestEcho_body p w)).2.2.2.2.2.2.2.2.2.2.2.2.2.1

/-! ### `Part.settled` -/

@[simp] theorem Part.settled_sup (q : Part) : (q.settled).sup = q.sup :=
  (Part.fields_of_body (Part.settled_body q)).1
@[simp] theorem Part.settled_lines (q : Part) : (q.settled).lines = q.lines :=
  (Part.fields_of_body (Part.settled_body q)).2.1
@[simp] theorem Part.settled_directory (q : Part) : (q.settled).directory = q.directory :=
  (Part.fields_of_body (Part.settled_body q)).2.2.1
@[simp] theorem Part.settled_alloc (q : Part) : (q.settled).alloc = q.alloc :=
  (Part.fields_of_body (Part.settled_body q)).2.2.2.1
@[simp] theorem Part.settled_chans (q : Part) : (q.settled).chans = q.chans :=
  (Part.fields_of_body (Part.settled_body q)).2.2.2.2.1
@[simp] theorem Part.settled_codes (q : Part) : (q.settled).codes = q.codes :=
  (Part.fields_of_body (Part.settled_body q)).2.2.2.2.2.1
@[simp] theorem Part.settled_link (q : Part) : (q.settled).link = q.link :=
  (Part.fields_of_body (Part.settled_body q)).2.2.2.2.2.2.1
@[simp] theorem Part.settled_supply (q : Part) : (q.settled).supply = q.supply :=
  (Part.fields_of_body (Part.settled_body q)).2.2.2.2.2.2.2.1
@[simp] theorem Part.settled_ring (q : Part) : (q.settled).ring = q.ring :=
  (Part.fields_of_body (Part.settled_body q)).2.2.2.2.2.2.2.2.1
@[simp] theorem Part.settled_tone (q : Part) : (q.settled).tone = q.tone :=
  (Part.fields_of_body (Part.settled_body q)).2.2.2.2.2.2.2.2.2.1
@[simp] theorem Part.settled_copies (q : Part) : (q.settled).copies = q.copies :=
  (Part.fields_of_body (Part.settled_body q)).2.2.2.2.2.2.2.2.2.2.1
@[simp] theorem Part.settled_gen (q : Part) : (q.settled).gen = q.gen :=
  (Part.fields_of_body (Part.settled_body q)).2.2.2.2.2.2.2.2.2.2.2.1
@[simp] theorem Part.settled_clock (q : Part) : (q.settled).clock = q.clock :=
  (Part.fields_of_body (Part.settled_body q)).2.2.2.2.2.2.2.2.2.2.2.2.1
@[simp] theorem Part.settled_mode (q : Part) : (q.settled).cmd.mode = q.cmd.mode :=
  (Part.fields_of_body (Part.settled_body q)).2.2.2.2.2.2.2.2.2.2.2.2.2.1

/-! ### `Part.judgeTone` -/

@[simp] theorem Part.judgeTone_sup (p : Part) (n : Line) : (p.judgeTone n).sup = p.sup := by
  unfold Part.judgeTone; simp only; split <;> rfl
@[simp] theorem Part.judgeTone_lines (p : Part) (n : Line) : (p.judgeTone n).lines = p.lines := by
  unfold Part.judgeTone; simp only; split <;> rfl
@[simp] theorem Part.judgeTone_directory (p : Part) (n : Line) : (p.judgeTone n).directory = p.directory := by
  unfold Part.judgeTone; simp only; split <;> rfl
@[simp] theorem Part.judgeTone_alloc (p : Part) (n : Line) : (p.judgeTone n).alloc = p.alloc := by
  unfold Part.judgeTone; simp only; split <;> rfl
@[simp] theorem Part.judgeTone_chans (p : Part) (n : Line) : (p.judgeTone n).chans = p.chans := by
  unfold Part.judgeTone; simp only; split <;> rfl
@[simp] theorem Part.judgeTone_codes (p : Part) (n : Line) : (p.judgeTone n).codes = p.codes := by
  unfold Part.judgeTone; simp only; split <;> rfl
@[simp] theorem Part.judgeTone_link (p : Part) (n : Line) : (p.judgeTone n).link = p.link := by
  unfold Part.judgeTone; simp only; split <;> rfl
@[simp] theorem Part.judgeTone_supply (p : Part) (n : Line) : (p.judgeTone n).supply = p.supply := by
  unfold Part.judgeTone; simp only; split <;> rfl
@[simp] theorem Part.judgeTone_ring (p : Part) (n : Line) : (p.judgeTone n).ring = p.ring := by
  unfold Part.judgeTone; simp only; split <;> rfl
@[simp] theorem Part.judgeTone_copies (p : Part) (n : Line) : (p.judgeTone n).copies = p.copies := by
  unfold Part.judgeTone; simp only; split <;> rfl
@[simp] theorem Part.judgeTone_gen (p : Part) (n : Line) : (p.judgeTone n).gen = p.gen := by
  unfold Part.judgeTone; simp only; split <;> rfl
@[simp] theorem Part.judgeTone_clock (p : Part) (n : Line) : (p.judgeTone n).clock = p.clock := by
  unfold Part.judgeTone; simp only; split <;> rfl
@[simp] theorem Part.judgeTone_report (p : Part) (n : Line) : (p.judgeTone n).report = p.report := by
  unfold Part.judgeTone; simp only; split <;> rfl
@[simp] theorem Part.judgeTone_cmd (p : Part) (n : Line) : (p.judgeTone n).cmd = p.cmd := by
  unfold Part.judgeTone; simp only; split <;> rfl
@[simp] theorem Part.judgeTone_tone_descriptors (p : Part) (n : Line) : (p.judgeTone n).tone.descriptors = p.tone.descriptors := by
  unfold Part.judgeTone; simp only; split <;> rfl
@[simp] theorem Part.judgeTone_tone_cadence (p : Part) (n : Line) : (p.judgeTone n).tone.cadence = p.tone.cadence := by
  unfold Part.judgeTone; simp only; split <;> rfl

/-! ### `Part.grantSlots` -/

@[simp] theorem Part.grantSlots_sup (p : Part) : (p.grantSlots).sup = p.sup := by
  rfl
@[simp] theorem Part.grantSlots_lines (p : Part) : (p.grantSlots).lines = p.lines := by
  rfl
@[simp] theorem Part.grantSlots_directory (p : Part) : (p.grantSlots).directory = p.directory := by
  rfl
@[simp] theorem Part.grantSlots_alloc (p : Part) : (p.grantSlots).alloc = p.alloc := by
  rfl
@[simp] theorem Part.grantSlots_chans (p : Part) : (p.grantSlots).chans = p.chans := by
  rfl
@[simp] theorem Part.grantSlots_codes (p : Part) : (p.grantSlots).codes = p.codes := by
  rfl
@[simp] theorem Part.grantSlots_link (p : Part) : (p.grantSlots).link = p.link := by
  rfl
@[simp] theorem Part.grantSlots_supply (p : Part) : (p.grantSlots).supply = p.supply := by
  rfl
@[simp] theorem Part.grantSlots_tone (p : Part) : (p.grantSlots).tone = p.tone := by
  rfl
@[simp] theorem Part.grantSlots_copies (p : Part) : (p.grantSlots).copies = p.copies := by
  rfl
@[simp] theorem Part.grantSlots_gen (p : Part) : (p.grantSlots).gen = p.gen := by
  rfl
@[simp] theorem Part.grantSlots_clock (p : Part) : (p.grantSlots).clock = p.clock := by
  rfl
@[simp] theorem Part.grantSlots_report (p : Part) : (p.grantSlots).report = p.report := by
  rfl
@[simp] theorem Part.grantSlots_cmd (p : Part) : (p.grantSlots).cmd = p.cmd := by
  rfl

/-! ### `Part.alertCancel` -/

@[simp] theorem Part.alertCancel_sup (p : Part) (n : Line) : (p.alertCancel n).sup = p.sup := by
  unfold Part.alertCancel; simp only; split <;> rfl
@[simp] theorem Part.alertCancel_lines (p : Part) (n : Line) : (p.alertCancel n).lines = p.lines := by
  unfold Part.alertCancel; simp only; split <;> rfl
@[simp] theorem Part.alertCancel_directory (p : Part) (n : Line) : (p.alertCancel n).directory = p.directory := by
  unfold Part.alertCancel; simp only; split <;> rfl
@[simp] theorem Part.alertCancel_alloc (p : Part) (n : Line) : (p.alertCancel n).alloc = p.alloc := by
  unfold Part.alertCancel; simp only; split <;> rfl
@[simp] theorem Part.alertCancel_chans (p : Part) (n : Line) : (p.alertCancel n).chans = p.chans := by
  unfold Part.alertCancel; simp only; split <;> rfl
@[simp] theorem Part.alertCancel_codes (p : Part) (n : Line) : (p.alertCancel n).codes = p.codes := by
  unfold Part.alertCancel; simp only; split <;> rfl
@[simp] theorem Part.alertCancel_link (p : Part) (n : Line) : (p.alertCancel n).link = p.link := by
  unfold Part.alertCancel; simp only; split <;> rfl
@[simp] theorem Part.alertCancel_supply (p : Part) (n : Line) : (p.alertCancel n).supply = p.supply := by
  unfold Part.alertCancel; simp only; split <;> rfl
@[simp] theorem Part.alertCancel_tone (p : Part) (n : Line) : (p.alertCancel n).tone = p.tone := by
  unfold Part.alertCancel; simp only; split <;> rfl
@[simp] theorem Part.alertCancel_copies (p : Part) (n : Line) : (p.alertCancel n).copies = p.copies := by
  unfold Part.alertCancel; simp only; split <;> rfl
@[simp] theorem Part.alertCancel_gen (p : Part) (n : Line) : (p.alertCancel n).gen = p.gen := by
  unfold Part.alertCancel; simp only; split <;> rfl
@[simp] theorem Part.alertCancel_clock (p : Part) (n : Line) : (p.alertCancel n).clock = p.clock := by
  unfold Part.alertCancel; simp only; split <;> rfl
@[simp] theorem Part.alertCancel_report (p : Part) (n : Line) : (p.alertCancel n).report = p.report := by
  unfold Part.alertCancel; simp only; split <;> rfl
@[simp] theorem Part.alertCancel_cmd (p : Part) (n : Line) : (p.alertCancel n).cmd = p.cmd := by
  unfold Part.alertCancel; simp only; split <;> rfl

/-! ### `Part.alertRequest` -/

@[simp] theorem Part.alertRequest_sup (p : Part) (n : Line) : (p.alertRequest n).sup = p.sup := by
  unfold Part.alertRequest; split <;> first | rfl | (simp only; split <;> rfl)
@[simp] theorem Part.alertRequest_lines (p : Part) (n : Line) : (p.alertRequest n).lines = p.lines := by
  unfold Part.alertRequest; split <;> first | rfl | (simp only; split <;> rfl)
@[simp] theorem Part.alertRequest_directory (p : Part) (n : Line) : (p.alertRequest n).directory = p.directory := by
  unfold Part.alertRequest; split <;> first | rfl | (simp only; split <;> rfl)
@[simp] theorem Part.alertRequest_alloc (p : Part) (n : Line) : (p.alertRequest n).alloc = p.alloc := by
  unfold Part.alertRequest; split <;> first | rfl | (simp only; split <;> rfl)
@[simp] theorem Part.alertRequest_chans (p : Part) (n : Line) : (p.alertRequest n).chans = p.chans := by
  unfold Part.alertRequest; split <;> first | rfl | (simp only; split <;> rfl)
@[simp] theorem Part.alertRequest_codes (p : Part) (n : Line) : (p.alertRequest n).codes = p.codes := by
  unfold Part.alertRequest; split <;> first | rfl | (simp only; split <;> rfl)
@[simp] theorem Part.alertRequest_link (p : Part) (n : Line) : (p.alertRequest n).link = p.link := by
  unfold Part.alertRequest; split <;> first | rfl | (simp only; split <;> rfl)
@[simp] theorem Part.alertRequest_supply (p : Part) (n : Line) : (p.alertRequest n).supply = p.supply := by
  unfold Part.alertRequest; split <;> first | rfl | (simp only; split <;> rfl)
@[simp] theorem Part.alertRequest_tone (p : Part) (n : Line) : (p.alertRequest n).tone = p.tone := by
  unfold Part.alertRequest; split <;> first | rfl | (simp only; split <;> rfl)
@[simp] theorem Part.alertRequest_copies (p : Part) (n : Line) : (p.alertRequest n).copies = p.copies := by
  unfold Part.alertRequest; split <;> first | rfl | (simp only; split <;> rfl)
@[simp] theorem Part.alertRequest_gen (p : Part) (n : Line) : (p.alertRequest n).gen = p.gen := by
  unfold Part.alertRequest; split <;> first | rfl | (simp only; split <;> rfl)
@[simp] theorem Part.alertRequest_clock (p : Part) (n : Line) : (p.alertRequest n).clock = p.clock := by
  unfold Part.alertRequest; split <;> first | rfl | (simp only; split <;> rfl)
@[simp] theorem Part.alertRequest_report (p : Part) (n : Line) : (p.alertRequest n).report = p.report := by
  unfold Part.alertRequest; split <;> first | rfl | (simp only; split <;> rfl)
@[simp] theorem Part.alertRequest_cmd (p : Part) (n : Line) : (p.alertRequest n).cmd = p.cmd := by
  unfold Part.alertRequest; split <;> first | rfl | (simp only; split <;> rfl)

/-! ### `Part.judgeUnusable` -/

@[simp] theorem Part.judgeUnusable_sup (p : Part) : (p.judgeUnusable).sup = p.sup := by
  simp only [Part.judgeUnusable]
@[simp] theorem Part.judgeUnusable_lines (p : Part) : (p.judgeUnusable).lines = p.lines := by
  simp only [Part.judgeUnusable]
@[simp] theorem Part.judgeUnusable_directory (p : Part) : (p.judgeUnusable).directory = p.directory := by
  simp only [Part.judgeUnusable]
@[simp] theorem Part.judgeUnusable_chans (p : Part) : (p.judgeUnusable).chans = p.chans := by
  simp only [Part.judgeUnusable]
@[simp] theorem Part.judgeUnusable_codes (p : Part) : (p.judgeUnusable).codes = p.codes := by
  simp only [Part.judgeUnusable]
@[simp] theorem Part.judgeUnusable_link (p : Part) : (p.judgeUnusable).link = p.link := by
  simp only [Part.judgeUnusable]
@[simp] theorem Part.judgeUnusable_supply (p : Part) : (p.judgeUnusable).supply = p.supply := by
  simp only [Part.judgeUnusable]
@[simp] theorem Part.judgeUnusable_ring (p : Part) : (p.judgeUnusable).ring = p.ring := by
  simp only [Part.judgeUnusable]
@[simp] theorem Part.judgeUnusable_tone (p : Part) : (p.judgeUnusable).tone = p.tone := by
  simp only [Part.judgeUnusable]
@[simp] theorem Part.judgeUnusable_copies (p : Part) : (p.judgeUnusable).copies = p.copies := by
  simp only [Part.judgeUnusable]
@[simp] theorem Part.judgeUnusable_gen (p : Part) : (p.judgeUnusable).gen = p.gen := by
  simp only [Part.judgeUnusable]
@[simp] theorem Part.judgeUnusable_clock (p : Part) : (p.judgeUnusable).clock = p.clock := by
  simp only [Part.judgeUnusable]
@[simp] theorem Part.judgeUnusable_report (p : Part) : (p.judgeUnusable).report = p.report := by
  simp only [Part.judgeUnusable]
@[simp] theorem Part.judgeUnusable_cmd (p : Part) : (p.judgeUnusable).cmd = p.cmd := by
  simp only [Part.judgeUnusable]

/-! ### `Part.judgeSilence` -/

@[simp] theorem Part.judgeSilence_sup (p : Part) : (p.judgeSilence).sup = p.sup := by
  simp only [Part.judgeSilence]
@[simp] theorem Part.judgeSilence_lines (p : Part) : (p.judgeSilence).lines = p.lines := by
  simp only [Part.judgeSilence]
@[simp] theorem Part.judgeSilence_directory (p : Part) : (p.judgeSilence).directory = p.directory := by
  simp only [Part.judgeSilence]
@[simp] theorem Part.judgeSilence_alloc (p : Part) : (p.judgeSilence).alloc = p.alloc := by
  simp only [Part.judgeSilence]
@[simp] theorem Part.judgeSilence_chans (p : Part) : (p.judgeSilence).chans = p.chans := by
  simp only [Part.judgeSilence]
@[simp] theorem Part.judgeSilence_codes (p : Part) : (p.judgeSilence).codes = p.codes := by
  simp only [Part.judgeSilence]
@[simp] theorem Part.judgeSilence_supply (p : Part) : (p.judgeSilence).supply = p.supply := by
  simp only [Part.judgeSilence]
@[simp] theorem Part.judgeSilence_ring (p : Part) : (p.judgeSilence).ring = p.ring := by
  simp only [Part.judgeSilence]
@[simp] theorem Part.judgeSilence_tone (p : Part) : (p.judgeSilence).tone = p.tone := by
  simp only [Part.judgeSilence]
@[simp] theorem Part.judgeSilence_copies (p : Part) : (p.judgeSilence).copies = p.copies := by
  simp only [Part.judgeSilence]
@[simp] theorem Part.judgeSilence_gen (p : Part) : (p.judgeSilence).gen = p.gen := by
  simp only [Part.judgeSilence]
@[simp] theorem Part.judgeSilence_clock (p : Part) : (p.judgeSilence).clock = p.clock := by
  simp only [Part.judgeSilence]
@[simp] theorem Part.judgeSilence_report (p : Part) : (p.judgeSilence).report = p.report := by
  simp only [Part.judgeSilence]
@[simp] theorem Part.judgeSilence_cmd (p : Part) : (p.judgeSilence).cmd = p.cmd := by
  simp only [Part.judgeSilence]

/-! ### `Part.restartSilence` -/

@[simp] theorem Part.restartSilence_sup (p : Part) : (p.restartSilence).sup = p.sup := by
  unfold Part.restartSilence; split <;> rfl
@[simp] theorem Part.restartSilence_lines (p : Part) : (p.restartSilence).lines = p.lines := by
  unfold Part.restartSilence; split <;> rfl
@[simp] theorem Part.restartSilence_directory (p : Part) : (p.restartSilence).directory = p.directory := by
  unfold Part.restartSilence; split <;> rfl
@[simp] theorem Part.restartSilence_alloc (p : Part) : (p.restartSilence).alloc = p.alloc := by
  unfold Part.restartSilence; split <;> rfl
@[simp] theorem Part.restartSilence_chans (p : Part) : (p.restartSilence).chans = p.chans := by
  unfold Part.restartSilence; split <;> rfl
@[simp] theorem Part.restartSilence_codes (p : Part) : (p.restartSilence).codes = p.codes := by
  unfold Part.restartSilence; split <;> rfl
@[simp] theorem Part.restartSilence_supply (p : Part) : (p.restartSilence).supply = p.supply := by
  unfold Part.restartSilence; split <;> rfl
@[simp] theorem Part.restartSilence_ring (p : Part) : (p.restartSilence).ring = p.ring := by
  unfold Part.restartSilence; split <;> rfl
@[simp] theorem Part.restartSilence_tone (p : Part) : (p.restartSilence).tone = p.tone := by
  unfold Part.restartSilence; split <;> rfl
@[simp] theorem Part.restartSilence_copies (p : Part) : (p.restartSilence).copies = p.copies := by
  unfold Part.restartSilence; split <;> rfl
@[simp] theorem Part.restartSilence_gen (p : Part) : (p.restartSilence).gen = p.gen := by
  unfold Part.restartSilence; split <;> rfl
@[simp] theorem Part.restartSilence_clock (p : Part) : (p.restartSilence).clock = p.clock := by
  unfold Part.restartSilence; split <;> rfl
@[simp] theorem Part.restartSilence_report (p : Part) : (p.restartSilence).report = p.report := by
  unfold Part.restartSilence; split <;> rfl
@[simp] theorem Part.restartSilence_cmd (p : Part) : (p.restartSilence).cmd = p.cmd := by
  unfold Part.restartSilence; split <;> rfl

/-! ### `Part.enterLine` -/

/-- The line records after a line has entered a state. -/
@[simp] theorem Part.enterLine_lines (p : Part) (n : Line) (st : LineState) (c : Option Cause) (h : Bool) :
    (p.enterLine n st c h).lines = p.lines.set n.val (p.lines[n].enter st c h) := by
  simp [Part.enterLine, Part.handLineState, Part.setLine]

/-- The tone unit after a line has entered a state. -/
theorem Part.enterLine_tone (p : Part) (n : Line) (st : LineState) (c : Option Cause) (h : Bool) :
    (p.enterLine n st c h).tone = ((p.setLine n (p.lines[n].enter st c h)).judgeTone n).tone := by
  simp [Part.enterLine, Part.handLineState]

@[simp] theorem Part.enterLine_sup (p : Part) (n : Line) (st : LineState) (c : Option Cause) (h : Bool) :
    (p.enterLine n st c h).sup = p.sup := by
  simp [Part.enterLine, Part.handLineState, Part.setLine]
@[simp] theorem Part.enterLine_directory (p : Part) (n : Line) (st : LineState) (c : Option Cause) (h : Bool) :
    (p.enterLine n st c h).directory = p.directory := by
  simp [Part.enterLine, Part.handLineState, Part.setLine]
@[simp] theorem Part.enterLine_alloc (p : Part) (n : Line) (st : LineState) (c : Option Cause) (h : Bool) :
    (p.enterLine n st c h).alloc = p.alloc := by
  simp [Part.enterLine, Part.handLineState, Part.setLine]
@[simp] theorem Part.enterLine_chans (p : Part) (n : Line) (st : LineState) (c : Option Cause) (h : Bool) :
    (p.enterLine n st c h).chans = p.chans := by
  simp [Part.enterLine, Part.handLineState, Part.setLine]
@[simp] theorem Part.enterLine_codes (p : Part) (n : Line) (st : LineState) (c : Option Cause) (h : Bool) :
    (p.enterLine n st c h).codes = p.codes := by
  simp [Part.enterLine, Part.handLineState, Part.setLine]
@[simp] theorem Part.enterLine_link (p : Part) (n : Line) (st : LineState) (c : Option Cause) (h : Bool) :
    (p.enterLine n st c h).link = p.link := by
  simp [Part.enterLine, Part.handLineState, Part.setLine]
@[simp] theorem Part.enterLine_supply (p : Part) (n : Line) (st : LineState) (c : Option Cause) (h : Bool) :
    (p.enterLine n st c h).supply = p.supply := by
  simp [Part.enterLine, Part.handLineState, Part.setLine]
@[simp] theorem Part.enterLine_ring (p : Part) (n : Line) (st : LineState) (c : Option Cause) (h : Bool) :
    (p.enterLine n st c h).ring = p.ring := by
  simp [Part.enterLine, Part.handLineState, Part.setLine]
@[simp] theorem Part.enterLine_copies (p : Part) (n : Line) (st : LineState) (c : Option Cause) (h : Bool) :
    (p.enterLine n st c h).copies = p.copies := by
  simp [Part.enterLine, Part.handLineState, Part.setLine]
@[simp] theorem Part.enterLine_gen (p : Part) (n : Line) (st : LineState) (c : Option Cause) (h : Bool) :
    (p.enterLine n st c h).gen = p.gen := by
  simp [Part.enterLine, Part.handLineState, Part.setLine]
@[simp] theorem Part.enterLine_clock (p : Part) (n : Line) (st : LineState) (c : Option Cause) (h : Bool) :
    (p.enterLine n st c h).clock = p.clock := by
  simp [Part.enterLine, Part.handLineState, Part.setLine]
@[simp] theorem Part.enterLine_tone_descriptors (p : Part) (n : Line) (st : LineState) (c : Option Cause) (h : Bool) :
    (p.enterLine n st c h).tone.descriptors = p.tone.descriptors := by
  simp [Part.enterLine, Part.handLineState, Part.setLine]
@[simp] theorem Part.enterLine_tone_cadence (p : Part) (n : Line) (st : LineState) (c : Option Cause) (h : Bool) :
    (p.enterLine n st c h).tone.cadence = p.tone.cadence := by
  simp [Part.enterLine, Part.handLineState, Part.setLine]
@[simp] theorem Part.enterLine_cmd_mode (p : Part) (n : Line) (st : LineState) (c : Option Cause) (h : Bool) :
    (p.enterLine n st c h).cmd.mode = p.cmd.mode := by
  simp [Part.enterLine, Part.handLineState, Part.setLine]

/-! ### `Part.enterChan` -/

/-- The channel records after a channel has entered a state. -/
@[simp] theorem Part.enterChan_chans (p : Part) (k : Chan) (st : ChanState) (r : Option RejectCode) :
    (p.enterChan k st r).chans = p.chans.set k.val (p.chans[k].enter st r) := by
  unfold Part.enterChan; simp only; split <;> simp [Part.handChanState, Part.setChan]

@[simp] theorem Part.enterChan_sup (p : Part) (k : Chan) (st : ChanState) (r : Option RejectCode) :
    (p.enterChan k st r).sup = p.sup := by
  unfold Part.enterChan; simp only; split <;> simp [Part.handChanState, Part.setChan, Part.judgeUnusable]
@[simp] theorem Part.enterChan_lines (p : Part) (k : Chan) (st : ChanState) (r : Option RejectCode) :
    (p.enterChan k st r).lines = p.lines := by
  unfold Part.enterChan; simp only; split <;> simp [Part.handChanState, Part.setChan, Part.judgeUnusable]
@[simp] theorem Part.enterChan_directory (p : Part) (k : Chan) (st : ChanState) (r : Option RejectCode) :
    (p.enterChan k st r).directory = p.directory := by
  unfold Part.enterChan; simp only; split <;> simp [Part.handChanState, Part.setChan, Part.judgeUnusable]
@[simp] theorem Part.enterChan_codes (p : Part) (k : Chan) (st : ChanState) (r : Option RejectCode) :
    (p.enterChan k st r).codes = p.codes := by
  unfold Part.enterChan; simp only; split <;> simp [Part.handChanState, Part.setChan, Part.judgeUnusable]
@[simp] theorem Part.enterChan_supply (p : Part) (k : Chan) (st : ChanState) (r : Option RejectCode) :
    (p.enterChan k st r).supply = p.supply := by
  unfold Part.enterChan; simp only; split <;> simp [Part.handChanState, Part.setChan, Part.judgeUnusable]
@[simp] theorem Part.enterChan_ring (p : Part) (k : Chan) (st : ChanState) (r : Option RejectCode) :
    (p.enterChan k st r).ring = p.ring := by
  unfold Part.enterChan; simp only; split <;> simp [Part.handChanState, Part.setChan, Part.judgeUnusable]
@[simp] theorem Part.enterChan_tone (p : Part) (k : Chan) (st : ChanState) (r : Option RejectCode) :
    (p.enterChan k st r).tone = p.tone := by
  unfold Part.enterChan; simp only; split <;> simp [Part.handChanState, Part.setChan, Part.judgeUnusable]
@[simp] theorem Part.enterChan_copies (p : Part) (k : Chan) (st : ChanState) (r : Option RejectCode) :
    (p.enterChan k st r).copies = p.copies := by
  unfold Part.enterChan; simp only; split <;> simp [Part.handChanState, Part.setChan, Part.judgeUnusable]
@[simp] theorem Part.enterChan_gen (p : Part) (k : Chan) (st : ChanState) (r : Option RejectCode) :
    (p.enterChan k st r).gen = p.gen := by
  unfold Part.enterChan; simp only; split <;> simp [Part.handChanState, Part.setChan, Part.judgeUnusable]
@[simp] theorem Part.enterChan_clock (p : Part) (k : Chan) (st : ChanState) (r : Option RejectCode) :
    (p.enterChan k st r).clock = p.clock := by
  unfold Part.enterChan; simp only; split <;> simp [Part.handChanState, Part.setChan, Part.judgeUnusable]
@[simp] theorem Part.enterChan_cmd_mode (p : Part) (k : Chan) (st : ChanState) (r : Option RejectCode) :
    (p.enterChan k st r).cmd.mode = p.cmd.mode := by
  unfold Part.enterChan; simp only; split <;> simp [Part.handChanState, Part.setChan, Part.judgeUnusable]
@[simp] theorem Part.enterChan_alloc_pointers (p : Part) (k : Chan) (st : ChanState) (r : Option RejectCode) :
    (p.enterChan k st r).alloc.pointers = p.alloc.pointers := by
  unfold Part.enterChan; simp only; split <;> simp [Part.handChanState, Part.setChan, Part.judgeUnusable]

end Sys2Proof.Machine
end

