-- ==== Sys2Proof/Laws/Fixed.lean ====
section
/-! SUPPORT. What no call-processing operation changes: the supervisor, the installed tables and profiles, the pending copies,
the general configuration, the supply warning, the clock, the part mode. One lemma per operation. -/

namespace Sys2Proof.Machine

/-- What call processing leaves alone. -/
structure Fixed where
  sup : Vector Supervisor 48
  profiles : Line → Profile
  directory : Vector DirEntry 64
  codes : Vector (Option Word) 20
  supply : Supply
  descriptors : Vector (Vector ToneStep 4) 8
  cadence : Vector CadenceStep 4
  copies : WordStore
  gen : GenConfig
  mode : Mode
  clock : Clock

/-- What call processing leaves alone, of a part. -/
def Part.fixed (p : Part) : Fixed :=
  { sup := p.sup, profiles := fun n => p.lines[n].profile, directory := p.directory, codes := p.codes,
    supply := p.supply, descriptors := p.tone.descriptors, cadence := p.tone.cadence, copies := p.copies, gen := p.gen,
    mode := p.cmd.mode, clock := p.clock }

/-- The body of the part decides what is fixed. -/
theorem Part.fixed_of_body {p q : Part} (h : p.body = q.body) : p.fixed = q.fixed := by
  show p.body.fixed = q.body.fixed
  rw [h]

/-! ## Updates -/

theorem Part.setLine_fixed {p : Part} {n : Line} {l : LineRecord} (h : l.profile = p.lines[n].profile) :
    (p.setLine n l).fixed = p.fixed := by
  unfold Part.fixed
  congr 1
  funext m
  rw [Part.setLine_lines, getElem_set_fin]
  split
  · rename_i hnm; subst hnm; exact h
  · rfl

@[simp] theorem Part.setPartner_fixed (p : Part) (n : Line) (x : Option Partner) (r : Option Role) :
    (p.setPartner n x r).fixed = p.fixed := Part.setLine_fixed rfl

@[simp] theorem Part.setChan_fixed (p : Part) (k : Chan) (c : ChanRecord) : (p.setChan k c).fixed = p.fixed := rfl

@[simp] theorem Part.setChanPartner_fixed (p : Part) (k : Chan) (x : Option Line) :
    (p.setChanPartner k x).fixed = p.fixed := rfl

@[simp] theorem Part.setLinkChanges_fixed (p : Part) (k : Chan) (l : List LinkChange) :
    (p.setLinkChanges k l).fixed = p.fixed := rfl

@[simp] theorem Part.setWaiter_fixed (p : Part) (n : Line) (w : Option WaitEntry) :
    (p.setWaiter n w).fixed = p.fixed := rfl

@[simp] theorem Part.setTonePosition_fixed (p : Part) (n : Line) (v : TonePosition) :
    (p.setTonePosition n v).fixed = p.fixed := rfl

@[simp] theorem Part.setLong_fixed (p : Part) (c : LongCommand) : (p.setLong c).fixed = p.fixed := rfl

/-- Replacing what is not fixed. -/
theorem Part.withAlloc_fixed (p : Part) (a : Allocator) : ({ p with alloc := a } : Part).fixed = p.fixed := rfl

theorem Part.withLink_fixed (p : Part) (l : Link) : ({ p with link := l } : Part).fixed = p.fixed := rfl

theorem Part.withRing_fixed (p : Part) (r : Ring) : ({ p with ring := r } : Part).fixed = p.fixed := rfl

/-! ## Records, requests, the end of an event -/

@[simp] theorem Part.hand_fixed (p : Part) (kind : RecordKind) (subject : Subject) (a b : Word) (tag : SnapshotTag) :
    (p.hand kind subject a b tag).fixed = p.fixed := Part.fixed_of_body (by simp)

@[simp] theorem Part.request_fixed (p : Part) (who : Requester) (off : Nat) (d : Option Word) :
    (p.request who off d).fixed = p.fixed := rfl

@[simp] theorem Part.tableRefused_fixed (p : Part) (t : TableRecord) (reason : RefusalReason) :
    (p.tableRefused t reason).fixed = p.fixed := Part.fixed_of_body (by simp)

@[simp] theorem Part.requestEcho_fixed (p : Part) (w : Word) : (p.requestEcho w).fixed = p.fixed :=
  Part.fixed_of_body (by simp)

@[simp] theorem Part.commandEnded_fixed (p : Part) (code : BitVec 8) (sequence : BitVec 4) (aborted : Bool) :
    (p.commandEnded code sequence aborted).fixed = p.fixed := Part.fixed_of_body (by simp)

@[simp] theorem Part.finish_fixed (p : Part) : p.finish.fixed = p.fixed := Part.fixed_of_body (by simp)

@[simp] theorem Part.closeOrPend_fixed (p : Part) (r : CloseReason) : (p.closeOrPend r).fixed = p.fixed :=
  Part.fixed_of_body (by simp)

/-! ## Entering a state -/

@[simp] theorem Part.judgeTone_fixed (p : Part) (n : Line) : (p.judgeTone n).fixed = p.fixed := by
  unfold Part.judgeTone; simp only; split
  · rfl
  · exact Part.setTonePosition_fixed ..

@[simp] theorem LineRecord.enter_profile (l : LineRecord) (st : LineState) (c : Option Cause) (h : Bool) :
    (l.enter st c h).profile = l.profile := by
  cases st <;> rfl

@[simp] theorem Part.handLineState_fixed (p : Part) (n : Line) : (p.handLineState n).fixed = p.fixed := Part.hand_fixed ..

@[simp] theorem Part.enterLine_fixed (p : Part) (n : Line) (st : LineState) (c : Option Cause) (h : Bool) :
    (p.enterLine n st c h).fixed = p.fixed := by
  unfold Part.enterLine
  rw [Part.handLineState_fixed, Part.judgeTone_fixed, Part.setLine_fixed (by simp)]

@[simp] theorem Part.judgeUnusable_fixed (p : Part) : p.judgeUnusable.fixed = p.fixed :=
  Part.withAlloc_fixed p _

@[simp] theorem Part.judgeSilence_fixed (p : Part) : p.judgeSilence.fixed = p.fixed :=
  Part.withLink_fixed p _

@[simp] theorem Part.restartSilence_fixed (p : Part) : p.restartSilence.fixed = p.fixed := by
  unfold Part.restartSilence; split <;> rfl

@[simp] theorem Part.handChanState_fixed (p : Part) (k : Chan) : (p.handChanState k).fixed = p.fixed := Part.hand_fixed ..

@[simp] theorem Part.enterChan_fixed (p : Part) (k : Chan) (st : ChanState) (r : Option RejectCode) :
    (p.enterChan k st r).fixed = p.fixed := by
  unfold Part.enterChan
  simp only
  split <;>
    simp only [Part.restartSilence_fixed, Part.judgeSilence_fixed, Part.judgeUnusable_fixed, Part.withAlloc_fixed,
      Part.handChanState_fixed, Part.setChan_fixed]

@[simp] theorem Part.handLinkState_fixed (p : Part) (c : LinkCause) : (p.handLinkState c).fixed = p.fixed :=
  Part.hand_fixed ..

@[simp] theorem Part.postLinkUp_fixed (p : Part) : p.postLinkUp.fixed = p.fixed := rfl

@[simp] theorem Part.postLinkDown_fixed (p : Part) : p.postLinkDown.fixed = p.fixed := rfl

@[simp] theorem Part.enterLink_fixed (p : Part) (st : LinkState) (o : Option Origin) (c : LinkCause) :
    (p.enterLink st o c).fixed = p.fixed := by
  unfold Part.enterLink
  simp only
  split
  · simp [Part.withLink_fixed]
  · split <;> simp [Part.withLink_fixed]

@[simp] theorem Part.demand_fixed (p : Part) : p.demand.fixed = p.fixed := by
  unfold Part.demand; split <;> simp

/-! ## Ring slots -/

@[simp] theorem Part.grantSlots_fixed (p : Part) : p.grantSlots.fixed = p.fixed := rfl

@[simp] theorem Part.alertRequest_fixed (p : Part) (n : Line) : (p.alertRequest n).fixed = p.fixed := by
  unfold Part.alertRequest; split
  · rfl
  · simp only; split <;> rfl

@[simp] theorem Part.alertCancel_fixed (p : Part) (n : Line) : (p.alertCancel n).fixed = p.fixed := by
  unfold Part.alertCancel; simp only; split <;> rfl

/-! ## Calls -/

@[simp] theorem Part.breakLine_fixed (p : Part) (n : Line) : (p.breakLine n).fixed = p.fixed := by
  unfold Part.breakLine; split <;> simp

@[simp] theorem Part.breakChan_fixed (p : Part) (k : Chan) : (p.breakChan k).fixed = p.fixed := by
  unfold Part.breakChan; split <;> simp

@[simp] theorem Part.dropLine_fixed (p : Part) (n : Line) (c : Cause) : (p.dropLine n c).fixed = p.fixed := by
  unfold Part.dropLine; simp only
  split <;> first | rfl | (split <;> simp) | simp

@[simp] theorem Part.dropPartner_fixed (p : Part) (k : Chan) (c : Cause) : (p.dropPartner k c).fixed = p.fixed := by
  unfold Part.dropPartner; split <;> simp

@[simp] theorem Part.seize_fixed (p : Part) (k : Chan) (n : Line) (c : CallClass) : (p.seize k n c).fixed = p.fixed := by
  unfold Part.seize; simp

@[simp] theorem Part.grant_fixed (p : Part) (k : Chan) (n : Line) : (p.grant k n).fixed = p.fixed := by
  unfold Part.grant; split
  · rfl
  · simp [Part.withAlloc_fixed]

@[simp] theorem Part.channelFree_fixed (p : Part) (k : Chan) : (p.channelFree k).fixed = p.fixed := by
  unfold Part.channelFree; split
  · rfl
  · split <;> simp

theorem Part.retry_fixed {again : Part → Line → Part} (h : ∀ p n, (again p n).fixed = p.fixed) (k : Chan) (p : Part)
    (n : Line) : (Part.retry again k p n).fixed = p.fixed := by
  unfold Part.retry; split
  · split
    · rw [h]; simp
    · rfl
  · rfl

/-- A fold of steps that each keep a value keeps it. -/
theorem foldl_keeps {α β γ : Type} {f : α → β → α} {g : α → γ} (h : ∀ a b, g (f a b) = g a) (l : List β) (a : α) :
    g (l.foldl f a) = g a := by
  induction l generalizing a with
  | nil => rfl
  | cons b rest ih => rw [List.foldl_cons, ih, h]

theorem Part.leaveWith_fixed {again : Part → Line → Part} (h : ∀ p n, (again p n).fixed = p.fixed) (p : Part) (k : Chan) :
    (p.leaveWith again k).fixed = p.fixed := by
  unfold Part.leaveWith
  rw [foldl_keeps (g := Part.fixed) (Part.retry_fixed h k)]
  split <;> simp

theorem Part.clearChanWith_fixed {again : Part → Line → Part} (h : ∀ p n, (again p n).fixed = p.fixed) (p : Part)
    (k : Chan) : (p.clearChanWith again k).fixed = p.fixed := by
  unfold Part.clearChanWith
  split
  · simp only; split
    · rw [Part.leaveWith_fixed h]; simp
    · split <;> simp
  · rfl

theorem Part.attempt_fixed (rounds : Nat) (p : Part) (n : Line) : (Part.attempt rounds p n).fixed = p.fixed := by
  induction rounds generalizing p n with
  | zero => rfl
  | succ r ih =>
    unfold Part.attempt
    split
    · rfl
    · split
      · rfl
      · simp only; split
        · rw [Part.clearChanWith_fixed ih]; simp
        · rw [Part.dropLine_fixed, Part.clearChanWith_fixed ih]; simp

@[simp] theorem Part.preempt_fixed (p : Part) (n : Line) : (p.preempt n).fixed = p.fixed := Part.attempt_fixed _ p n

@[simp] theorem Part.leave_fixed (p : Part) (k : Chan) : (p.leave k).fixed = p.fixed :=
  Part.leaveWith_fixed Part.preempt_fixed p k

@[simp] theorem Part.clearChan_fixed (p : Part) (k : Chan) : (p.clearChan k).fixed = p.fixed :=
  Part.clearChanWith_fixed Part.preempt_fixed p k

@[simp] theorem Part.restChan_fixed (p : Part) (k : Chan) (st : ChanState) : (p.restChan k st).fixed = p.fixed := by
  unfold Part.restChan; simp

@[simp] theorem Part.pursue_fixed (p : Part) (n : Line) (e : WaitEntry) : (p.pursue n e).fixed = p.fixed := by
  unfold Part.pursue
  simp only
  split
  · split <;> simp
  · split <;> simp

@[simp] theorem Part.enqueue_fixed (p : Part) (n : Line) (g : Bool) : (p.enqueue n g).fixed = p.fixed := by
  unfold Part.enqueue; split
  · rfl
  · split
    · simp
    · simp only; split <;> simp

@[simp] theorem Part.glareReturn_fixed (p : Part) (n : Line) : (p.glareReturn n).fixed = p.fixed := by
  unfold Part.glareReturn; simp

@[simp] theorem Part.tearDown_fixed (p : Part) (n : Line) (c : Cause) : (p.tearDown n c).fixed = p.fixed := by
  unfold Part.tearDown; split <;> simp

@[simp] theorem Part.abandon_fixed (p : Part) (n : Line) : (p.abandon n).fixed = p.fixed := by
  unfold Part.abandon; simp only; split <;> simp

/-! ## The line controller -/

@[simp] theorem Part.routeLocal_fixed (p : Part) (n t : Line) : (p.routeLocal n t).fixed = p.fixed := by
  unfold Part.routeLocal; split
  · simp
  · split <;> simp

@[simp] theorem Part.actOn_fixed (p : Part) (n : Line) (r : Option Route) (v : Verdict) :
    (p.actOn n r v).fixed = p.fixed := by
  have h : ∀ x : Option Route, (p.setLine n (p.lines[n].routed x)).fixed = p.fixed := fun x => Part.setLine_fixed rfl
  unfold Part.actOn
  simp only
  split
  · rw [Part.setLine_fixed, h]; rfl
  · rw [Part.enterLine_fixed, h]
  · rw [Part.routeLocal_fixed, Part.handCallRouted, Part.hand_fixed, h]
  · rw [Part.enqueue_fixed, Part.enterLine_fixed, Part.handCallRouted, Part.hand_fixed, h]
  · exact h _

@[simp] theorem Part.routeHotline_fixed (p : Part) (n : Line) (d : EntryIx) : (p.routeHotline n d).fixed = p.fixed := by
  unfold Part.routeHotline
  simp only
  rw [Part.actOn_fixed, Part.setLine_fixed]; rfl

@[simp] theorem Part.originate_fixed (p : Part) (n : Line) : (p.originate n).fixed = p.fixed := by
  unfold Part.originate; split
  · simp
  · simp only; split
    · split <;> simp
    · simp

@[simp] theorem Part.markAnswered_fixed (p : Part) (n : Line) : (p.markAnswered n).fixed = p.fixed :=
  Part.setLine_fixed rfl

@[simp] theorem Part.answer_fixed (p : Part) (n : Line) : (p.answer n).fixed = p.fixed := by
  unfold Part.answer; split
  · simp
  · simp only; split <;> simp
  · rfl

@[simp] theorem Part.offHook_fixed (p : Part) (n : Line) : (p.offHook n).fixed = p.fixed := by
  unfold Part.offHook; split <;> simp

@[simp] theorem Part.onHook_fixed (p : Part) (n : Line) : (p.onHook n).fixed = p.fixed := by
  unfold Part.onHook; split <;> simp

@[simp] theorem Part.dialDigit_fixed (p : Part) (n : Line) (d : Digit) : (p.dialDigit n d).fixed = p.fixed := by
  unfold Part.dialDigit; split
  · simp only
    rw [Part.actOn_fixed, Part.judgeTone_fixed, Part.setLine_fixed]; rfl
  · rfl

@[simp] theorem Part.misdial_fixed (p : Part) (n : Line) : (p.misdial n).fixed = p.fixed := by
  unfold Part.misdial; split <;> simp

@[simp] theorem Part.dialingExpired_fixed (p : Part) (n : Line) : (p.dialingExpired n).fixed = p.fixed := by
  unfold Part.dialingExpired; simp

@[simp] theorem Part.hotlineExpired_fixed (p : Part) (n : Line) : (p.hotlineExpired n).fixed = p.fixed := by
  unfold Part.hotlineExpired; split <;> simp

@[simp] theorem Part.cleardownExpired_fixed (p : Part) (n : Line) : (p.cleardownExpired n).fixed = p.fixed := by
  unfold Part.cleardownExpired; simp

@[simp] theorem Part.howlerExpired_fixed (p : Part) (n : Line) : (p.howlerExpired n).fixed = p.fixed := by
  unfold Part.howlerExpired
  rw [Part.judgeTone_fixed, Part.setLine_fixed]; rfl

@[simp] theorem Part.startLine_fixed (p : Part) (n : Line) : (p.startLine n).fixed = p.fixed := by
  unfold Part.startLine; simp only; split
  · rw [Part.originate_fixed]; rfl
  · rfl

@[simp] theorem Part.clearLine_fixed (p : Part) (n : Line) : (p.clearLine n).fixed = p.fixed := by
  unfold Part.clearLine; split
  · simp only; split <;> simp
  · rfl

@[simp] theorem Part.clearIncoming_fixed (p : Part) (k : Chan) : (p.clearIncoming k).fixed = p.fixed := by
  unfold Part.clearIncoming; split <;> simp

@[simp] theorem Part.entryExpired_fixed (p : Part) (n : Line) (l : Nat) : (p.entryExpired n l).fixed = p.fixed := by
  unfold Part.entryExpired; split <;> simp

/-! ## The channel signalling unit -/

@[simp] theorem Part.protocolError_fixed (p : Part) (k : Chan) (x : Code) : (p.protocolError k x).fixed = p.fixed :=
  Part.hand_fixed ..

@[simp] theorem Part.handChanFault_fixed (p : Part) (k : Chan) (r : Nat) : (p.handChanFault k r).fixed = p.fixed :=
  Part.hand_fixed ..

@[simp] theorem Part.seizedByFar_fixed (p : Part) (k : Chan) : (p.seizedByFar k).fixed = p.fixed := by
  unfold Part.seizedByFar Part.markIncoming; simp only; split <;> simp

@[simp] theorem Part.glare_fixed (p : Part) (k : Chan) : (p.glare k).fixed = p.fixed := by
  unfold Part.glare; split <;> simp

@[simp] theorem Part.incomingCall_fixed (p : Part) (k : Chan) (n : Line) : (p.incomingCall k n).fixed = p.fixed := by
  unfold Part.incomingCall; split <;> simp

@[simp] theorem Part.answeredByFar_fixed (p : Part) (n : Line) : (p.answeredByFar n).fixed = p.fixed := by
  unfold Part.answeredByFar; split
  · rw [Part.enterLine_fixed, Part.setLine_fixed]; rfl
  · rfl

@[simp] theorem Part.endCall_fixed (p : Part) (k : Chan) (st : ChanState) (c : Cause) :
    (p.endCall k st c).fixed = p.fixed := by
  unfold Part.endCall; split <;> simp

@[simp] theorem Part.accept_fixed (p : Part) (k : Chan) (x : Code) : (p.accept k x).fixed = p.fixed := by
  unfold Part.accept Part.farInFault
  simp only
  split
  · simp
  · split
    · unfold Part.farIdle; split <;> simp
    · unfold Part.farSeize; split <;> simp
    · unfold Part.farProceed; split <;> simp
    · unfold Part.farEnd; split
      · split
        · simp
        · split <;> simp
      · simp
    · unfold Part.farRinging; split <;> simp
    · unfold Part.farAnswer; split <;> simp
    · unfold Part.farClear; split <;> simp
    · unfold Part.farReject; split <;> simp
    · unfold Part.farReject; split <;> simp
    · unfold Part.farBlocked; split <;> simp
    · unfold Part.farDigit; split
      · split <;> simp
      · simp

@[simp] theorem Part.signalIn_fixed (p : Part) (k : Chan) (w : Word) : (p.signalIn k w).fixed = p.fixed := by
  unfold Part.signalIn; split
  · rfl
  · split
    · simp
    · simp only; split <;> simp

@[simp] theorem Part.seizeLimitExpired_fixed (p : Part) (k : Chan) : (p.seizeLimitExpired k).fixed = p.fixed := by
  unfold Part.seizeLimitExpired; simp only; split <;> simp

@[simp] theorem Part.digitHoldExpired_fixed (p : Part) (k : Chan) : (p.digitHoldExpired k).fixed = p.fixed := rfl

@[simp] theorem Part.digitGapExpired_fixed (p : Part) (k : Chan) : (p.digitGapExpired k).fixed = p.fixed := by
  unfold Part.digitGapExpired; simp only; split <;> simp

@[simp] theorem Part.incomingLimitExpired_fixed (p : Part) (k : Chan) : (p.incomingLimitExpired k).fixed = p.fixed := by
  unfold Part.incomingLimitExpired; simp

@[simp] theorem Part.releaseGuardExpired_fixed (p : Part) (k : Chan) : (p.releaseGuardExpired k).fixed = p.fixed := by
  unfold Part.releaseGuardExpired; simp

@[simp] theorem Part.recoveryExpired_fixed (p : Part) (k : Chan) : (p.recoveryExpired k).fixed = p.fixed := by
  unfold Part.recoveryExpired; simp

@[simp] theorem Part.stallExpired_fixed (p : Part) (k : Chan) : (p.stallExpired k).fixed = p.fixed := by
  unfold Part.stallExpired; simp only; split <;> simp

@[simp] theorem Part.channelUp_fixed (p : Part) (k : Chan) : (p.channelUp k).fixed = p.fixed := by
  unfold Part.channelUp; simp only; split <;> simp

@[simp] theorem Part.channelDown_fixed (p : Part) (k : Chan) : (p.channelDown k).fixed = p.fixed := by
  unfold Part.channelDown; simp only; split <;> simp

@[simp] theorem Part.resetChan_fixed (p : Part) (k : Chan) : (p.resetChan k).fixed = p.fixed := by
  unfold Part.resetChan; simp only; split <;> simp

@[simp] theorem Part.haltChan_fixed (p : Part) (k : Chan) : (p.haltChan k).fixed = p.fixed := by
  unfold Part.haltChan; simp only; split <;> simp

/-! ## The link controller, ringing, tones -/

@[simp] theorem Part.dropWake_fixed (p : Part) : p.dropWake.fixed = p.fixed := rfl

@[simp] theorem Part.wake_fixed (p : Part) : p.wake.fixed = p.fixed := by
  unfold Part.wake
  simp only
  split
  · split
    · split
      · rw [Part.enterLink_fixed]; rfl
      · rfl
    · rfl
    · split <;> rfl
    · split <;> rfl
  · rfl

@[simp] theorem Part.holdoffExpired_fixed (p : Part) : p.holdoffExpired.fixed = p.fixed := by
  unfold Part.holdoffExpired
  simp only
  split
  · simp
  · split
    · simp
    · split <;> simp
  · simp

@[simp] theorem Part.linkUp_fixed (p : Part) : p.linkUp.fixed = p.fixed := by
  unfold Part.linkUp; split
  · split <;> first | rfl | simp
  · rfl

@[simp] theorem Part.linkDown_fixed (p : Part) : p.linkDown.fixed = p.fixed := by
  unfold Part.linkDown; split <;> first | rfl | simp

@[simp] theorem Part.linkAtStart_fixed (p : Part) : p.linkAtStart.fixed = p.fixed := by
  unfold Part.linkAtStart; split <;> simp

@[simp] theorem Part.linkAtHalt_fixed (p : Part) : p.linkAtHalt.fixed = p.fixed := by
  unfold Part.linkAtHalt; simp only; split <;> simp only [Part.handLinkState_fixed, Part.dropWake_fixed] <;> rfl

@[simp] theorem Part.policyChanged_fixed (p : Part) (old : LinkPolicy) : (p.policyChanged old).fixed = p.fixed := by
  unfold Part.policyChanged; split
  · split <;> first | rfl | simp | (split <;> first | rfl | simp)
  · rfl

@[simp] theorem Part.supplyToAllocator_fixed (p : Part) : p.supplyToAllocator.fixed = p.fixed := by
  unfold Part.supplyToAllocator; split <;> simp

@[simp] theorem Part.endAlerting_fixed (p : Part) (n : Line) : (p.endAlerting n).fixed = p.fixed := by
  unfold Part.endAlerting; split <;> simp

@[simp] theorem Part.alertExpired_fixed (p : Part) (n : Line) : (p.alertExpired n).fixed = p.fixed := by
  unfold Part.alertExpired; simp

@[simp] theorem Part.endCadenceStep_fixed (p : Part) (n : Line) : (p.endCadenceStep n).fixed = p.fixed := rfl

@[simp] theorem Part.endToneStep_fixed (p : Part) (n : Line) : (p.endToneStep n).fixed = p.fixed := rfl

@[simp] theorem Part.budgetChanged_fixed (p : Part) (before : Nat) : (p.budgetChanged before).fixed = p.fixed := by
  unfold Part.budgetChanged; split <;> simp

end Sys2Proof.Machine
end

