-- ==== Sys2Proof/Laws/Exec.lean ====
section
/-! SUPPORT. What one step can do to the part, said once: the events of the blocks, and the induction over a command that
every invariant of the part rests on. -/

namespace Sys2Proof.Machine

/-- `Part.Event p q`: one event of a block takes `p` to `q`, before what ends every event. -/
inductive Part.Event (p : Part) : Part → Prop where
  | senseWrite (n : Line) (w : Word) : Event p (p.senseWrite n w)
  | onHookMin (n : Line) (h : p.onHookMinDue n = true) : Event p (p.onHookMin n)
  | interDigitPause (n : Line) (h : p.pauseDue n = true) : Event p (p.interDigitPause n)
  | offHook (n : Line) : Event p (p.takeEvent n (·.offHook n))
  | onHook (n : Line) : Event p (p.takeEvent n (·.onHook n))
  | digit (n : Line) (d : Digit) : Event p (p.takeEvent n (·.dialDigit n d))
  | misdial (n : Line) : Event p (p.takeEvent n (·.misdial n))
  | firstDigit (n : Line) (h : p.firstDigitDue n = true) : Event p (p.dialingExpired n)
  | interDigit (n : Line) (h : p.interDigitDue n = true) : Event p (p.dialingExpired n)
  | hotline (n : Line) (h : p.hotlineDue n = true) : Event p (p.hotlineExpired n)
  | cleardown (n : Line) (h : p.cleardownDue n = true) : Event p (p.cleardownExpired n)
  | howler (n : Line) (h : p.howlerDue n = true) : Event p (p.howlerExpired n)
  | startLine (n : Line) : Event p (p.startLine n)
  | clearLine (n : Line) (h : p.lineToClear n = true) : Event p (p.clearLine n)
  | clearIncoming (k : Chan) (h : p.chanToClear k = true) : Event p (p.clearIncoming k)
  | queueTimer (n : Line) (h : p.queueDue n = true) : Event p (p.entryExpired n 0)
  | unusableTimer (n : Line) (h : p.unusableDue n = true) : Event p (p.entryExpired n 1)
  | signalIn (k : Chan) (w : Word) : Event p (p.signalIn k w)
  | seizeLimit (k : Chan) (h : p.seizeLimitDue k = true) : Event p (p.seizeLimitExpired k)
  | digitHold (k : Chan) (h : p.digitHoldDue k = true) : Event p (p.digitHoldExpired k)
  | digitGap (k : Chan) (h : p.digitGapDue k = true) : Event p (p.digitGapExpired k)
  | incomingLimit (k : Chan) (h : p.incomingLimitDue k = true) : Event p (p.incomingLimitExpired k)
  | releaseGuard (k : Chan) (h : p.releaseGuardDue k = true) : Event p (p.releaseGuardExpired k)
  | recovery (k : Chan) (h : p.recoveryDue k = true) : Event p (p.recoveryExpired k)
  | stall (k : Chan) (h : p.stallDue k = true) : Event p (p.stallExpired k)
  | channelUp (k : Chan) (h : p.linkChangeIs k .up = true) : Event p (p.channelUp k)
  | channelDown (k : Chan) (h : p.linkChangeIs k .down = true) : Event p (p.channelDown k)
  | installCode (x : Code) (w : Word) : Event p (p.installCode x w)
  | writePending (off : Nat) (w : Word) : Event p (p.writePending off w)
  | commitEntry (d : EntryIx) (w : Word) : Event p (p.commitEntry d w)
  | commitProfile (n : Line) (w : Word) : Event p (p.commitProfile n w)
  | commitChanConfig (k : Chan) (w : Word) : Event p (p.commitChanConfig k w)
  | commitGeneral (w : Word) : Event p (p.commitGeneral w)
  | commitTone (t : ToneIx) (w : Word) : Event p (p.commitTone t w)
  | commitCadence (w : Word) : Event p (p.commitCadence w)
  | refused (code : BitVec 8) (reason : CommandResult) : Event p (p.raiseSequence.refuseCommand code reason)
  | start (h : p.isRunning = false) : Event p (p.raiseSequence.short .start Part.start)
  | halt : Event p (p.raiseSequence.short .halt Part.halt)
  | clearCalls (h : p.isRunning = true) : Event p p.raiseSequence.clearCalls
  | rescan : Event p p.raiseSequence.rescan
  | snapshot : Event p p.raiseSequence.snapshot
  | linkUp : Event p (p.raiseSequence.short .linkUp Part.linkUp)
  | linkDown : Event p (p.raiseSequence.short .linkDown Part.linkDown)
  | lineReset (o : BitVec 8) (h : p.isRunning = true) : Event p (p.raiseSequence.short .lineReset (·.lineReset o))
  | channelReset (o : BitVec 8) : Event p (p.raiseSequence.short .channelReset (·.channelReset o))
  | reportFlush : Event p (p.raiseSequence.short .reportFlush (·.closeOrPend .flush))
  | noCommand : Event p p
  | echoCompleted : Event p p.echoCompleted
  | takeRead (w : Word) : Event p (p.takeRead w)
  | takeDisposal : Event p p.takeDisposal
  | linkReady (h : p.readyDue = true) : Event p p.linkReady
  | linkReadyLost (h : p.readyLostDue = true) : Event p p.linkReadyLost
  | wake : Event p p.wake
  | startLimit (h : p.startLimitDue = true) : Event p p.startLimitExpired
  | holdoff (h : p.holdoffDue = true) : Event p p.holdoffExpired
  | silence (h : p.silenceDue = true) : Event p p.silenceExpired
  | acceptSupply : Event p p.acceptSupply
  | alertExpired (n : Line) : Event p (p.alertExpired n)
  | cadence (n : Line) : Event p (p.endCadenceStep n)
  | tone (n : Line) : Event p (p.endToneStep n)
  | headerWrite (x : BufferId) (w : Word) (b : Bool) : Event p (p.headerWrite x w b)
  | wordWritten : Event p p.wordWritten
  | ageExpired : Event p p.ageExpired

/-- A command event is one of the events: a refusal, or the effect of the command under the conditions of Table 10-5. -/
theorem Part.command_event (p : Part) (c : Command) (operand : BitVec 8) (effect : Part → Part)
    (h : p.raiseSequence.modeAllows c = true → Part.Event p (effect p.raiseSequence)) :
    Part.Event p (p.command c operand effect) := by
  unfold Part.command
  simp only
  split
  · exact .refused _ _
  · rename_i hr
    refine h ?_
    unfold Part.commandRefusal at hr
    split at hr
    · cases hr
    · split at hr
      · cases hr
      · rename_i hm
        simpa using hm

/-! ## Invariants of the part -/

section Invariant

variable {Inv : Part → Prop}

theorem State.event_inv {s : State} {act : Part → Part} (hev : ∀ p q, Inv p → Part.Event p q → Inv q.settled)
    (ha : Part.Event s.part (act s.part)) (h : Inv s.part) : Inv (s.event act).part := by
  by_cases hr : s.path.resetAsserted = true
  · rw [State.event_reset hr]; exact h
  · rw [State.event_part (by simpa [State.live] using hr)]
    exact hev _ _ h ha

theorem State.eventIf_inv {s : State} {due : Part → Bool} {act : Part → Part}
    (hev : ∀ p q, Inv p → Part.Event p q → Inv q.settled)
    (ha : due s.part = true → Part.Event s.part (act s.part)) (h : Inv s.part) : Inv (s.eventIf due act).part := by
  unfold State.eventIf
  split
  · exact State.event_inv hev (ha ‹_›) h
  · exact h

theorem State.snooped_inv {s : State} {off : Nat} {w : Word} {act : Part → Part}
    (hev : ∀ p q, Inv p → Part.Event p q → Inv q.settled)
    (ha : Part.Event s.part (act s.part)) (h : Inv s.part) : Inv (s.snooped off w act).part := by
  unfold State.snooped
  split
  · split
    · exact State.event_inv hev ha h
    · simpa using h
  · split
    · exact State.event_inv hev ha h
    · simpa using h
  · simpa using h

theorem StrobeEvent.isEvent (e : StrobeEvent) (p : Part) (h : e.due p = true) : Part.Event p (e.act p) := by
  cases e with
  | onHookMin n => exact .onHookMin n h
  | interDigitPause n => exact .interDigitPause n h
  | firstDigit n => exact .firstDigit n h
  | interDigit n => exact .interDigit n h
  | hotline n => exact .hotline n h
  | cleardown n => exact .cleardown n h
  | howler n => exact .howler n h
  | queueTimer n => exact .queueTimer n h
  | unusableTimer n => exact .unusableTimer n h
  | seizeLimit k => exact .seizeLimit k h
  | digitHold k => exact .digitHold k h
  | digitGap k => exact .digitGap k h
  | incomingLimit k => exact .incomingLimit k h
  | releaseGuard k => exact .releaseGuard k h
  | recovery k => exact .recovery k h
  | stall k => exact .stall k h
  | ready => exact .linkReady h
  | readyLost => exact .linkReadyLost h
  | startLimit => exact .startLimit h
  | holdoff => exact .holdoff h
  | silence => exact .silence h
  | wake => exact .wake
  | supply => exact .acceptSupply
  | alertLimit n => exact .alertExpired n
  | cadence n => exact .cadence n
  | tone n => exact .tone n
  | age => exact .ageExpired

/-- The events left behind by the strobe before keep what every event keeps. -/
theorem State.settle_inv {s : State} (hev : ∀ p q, Inv p → Part.Event p q → Inv q.settled) (h : Inv s.part) :
    Inv s.settle.part := by
  unfold State.settle
  split
  case isFalse => exact h
  rename_i hdue
  clear hdue
  generalize strobeEvents = l
  induction l generalizing s with
  | nil => exact h
  | cons e rest ih => exact ih (State.eventIf_inv hev (StrobeEvent.isEvent e s.part) h)

/-! ## The frame strobe -/

@[simp] theorem State.eventIf_pending (s : State) (due : Part → Bool) (act : Part → Part) :
    (s.eventIf due act).pending = s.pending := by
  unfold State.eventIf; split <;> simp

@[simp] theorem State.snooped_pending (s : State) (off : Nat) (w : Word) (act : Part → Part) :
    (s.snooped off w act).pending = s.pending := by
  unfold State.snooped
  repeat' split
  all_goals simp [State.storeWord]

theorem State.settle_pending (s : State) : s.settle.pending = s.pending := by
  unfold State.settle
  split
  case isFalse => rfl
  rename_i hdue
  clear hdue
  generalize strobeEvents = l
  induction l generalizing s with
  | nil => rfl
  | cons e rest ih => rw [List.foldl_cons, ih, State.eventIf_pending]

/-- With no event left behind there is nothing to settle. -/
theorem State.settle_ready {s : State} (h : s.readyForStrobe) : s.settle = s := by
  unfold State.settle
  rw [if_neg]
  simp only [List.any_eq_true, not_exists, not_and, Bool.not_eq_true]
  exact h.2

/-- A frame strobe while RESETN is released. -/
theorem exec_frameStrobe_live {s : State} (rrdy rwake supw : Bool) (h : s.live) :
    exec (.frameStrobe rrdy rwake supw) s =
      .next { s.settle with part := s.settle.part.strobe rrdy rwake supw } := by
  unfold State.live at h
  show Host.Outcome.next (if s.path.resetAsserted = true then s
    else { s.settle with part := s.settle.part.strobe rrdy rwake supw }) = _
  rw [if_neg (by simp [h])]

/-- A frame strobe while RESETN is asserted is ignored. -/
theorem exec_frameStrobe_reset {s : State} (rrdy rwake supw : Bool) (h : s.path.resetAsserted = true) :
    exec (.frameStrobe rrdy rwake supw) s = .next s := by
  show Host.Outcome.next (if s.path.resetAsserted = true then s
    else { s.settle with part := s.settle.part.strobe rrdy rwake supw }) = _
  rw [if_pos h]

/-! ## The memory port -/

@[simp] theorem State.completeAccess_part (s : State) (a : Service) : (s.completeAccess a).part = s.part := by
  unfold State.completeAccess; simp only; split <;> rfl

@[simp] theorem State.readWord_part (s : State) (off : Nat) : (s.readWord off).part = s.part := by
  unfold State.readWord; simp only; split <;> simp

/-- THE INDUCTION OVER A COMMAND: a predicate on the part that the reset states have, that every event of a block keeps and
that the strobe keeps, is kept by every command. -/
theorem exec_inv {i : Instr} {s t : State} (hreset : Inv Part.reset) (hrelease : ∀ area, Inv (Part.released area))
    (hev : ∀ p q, Inv p → Part.Event p q → Inv q.settled)
    (hstrobe : ∀ p r w u, Inv p → Inv (Part.strobe p r w u)) (h : Inv s.part) (he : exec i s = .next t) :
    Inv t.part := by
  cases i with
  | resetAssertion => cases he; exact hreset
  | resetRelease area =>
    cases he
    split
    · exact hrelease area
    · exact h
  | frameStrobe r w u =>
    cases he
    split
    · exact h
    · exact hstrobe _ _ _ _ (State.settle_inv hev h)
  | forwardedAccessPresented access => cases he; simpa using h
  | portAccessComplete =>
    cases he
    split
    · exact h
    · rw [State.completeAccess_part]; exact h
  | masterWrite a d => cases he; simpa using h
  | senseWrite n w => cases he; exact State.snooped_inv hev (.senseWrite n w) h
  | onHookMinExpiry n => cases he; exact State.eventIf_inv hev (.onHookMin n) h
  | interDigitPauseExpiry n => cases he; exact State.eventIf_inv hev (.interDigitPause n) h
  | offHook n => cases he; exact State.eventIf_inv hev (fun _ => .offHook n) h
  | onHook n => cases he; exact State.eventIf_inv hev (fun _ => .onHook n) h
  | digit n d => cases he; exact State.eventIf_inv hev (fun _ => .digit n d) h
  | misdial n => cases he; exact State.eventIf_inv hev (fun _ => .misdial n) h
  | firstDigitLimitExpiry n => cases he; exact State.eventIf_inv hev (.firstDigit n) h
  | interDigitLimitExpiry n => cases he; exact State.eventIf_inv hev (.interDigit n) h
  | hotlineDelayExpiry n => cases he; exact State.eventIf_inv hev (.hotline n) h
  | cleardownLimitExpiry n => cases he; exact State.eventIf_inv hev (.cleardown n) h
  | howlerTimeExpiry n => cases he; exact State.eventIf_inv hev (.howler n) h
  | startOrigination n => cases he; exact State.eventIf_inv hev (fun _ => .startLine n) h
  | clearCallsLineTeardown n => cases he; exact State.eventIf_inv hev (.clearLine n) h
  | clearCallsChannelClear k => cases he; exact State.eventIf_inv hev (.clearIncoming k) h
  | queueTimerExpiry n => cases he; exact State.eventIf_inv hev (.queueTimer n) h
  | unusableTimerExpiry n => cases he; exact State.eventIf_inv hev (.unusableTimer n) h
  | signalInWrite k w => cases he; exact State.snooped_inv hev (.signalIn k w) h
  | seizeLimitExpiry k => cases he; exact State.eventIf_inv hev (.seizeLimit k) h
  | digitHoldExpiry k => cases he; exact State.eventIf_inv hev (.digitHold k) h
  | digitGapExpiry k => cases he; exact State.eventIf_inv hev (.digitGap k) h
  | incomingDigitLimitExpiry k => cases he; exact State.eventIf_inv hev (.incomingLimit k) h
  | releaseGuardExpiry k => cases he; exact State.eventIf_inv hev (.releaseGuard k) h
  | recoveryTimeExpiry k => cases he; exact State.eventIf_inv hev (.recovery k) h
  | stallExpiry k => cases he; exact State.eventIf_inv hev (.stall k) h
  | channelLinkUp k => cases he; exact State.eventIf_inv hev (.channelUp k) h
  | channelLinkDown k => cases he; exact State.eventIf_inv hev (.channelDown k) h
  | signalOutRead k => cases he; simpa using h
  | channelListenRead k => cases he; simpa using h
  | lineListenRead n => cases he; simpa using h
  | lineDriveRead n => cases he; simpa using h
  | signalCodeInstall x w => cases he; exact State.snooped_inv hev (.installCode x w) h
  | pendingWordWrite off w =>
    cases he
    split
    · exact State.snooped_inv hev (.writePending _ w) h
    · exact h
  | directoryCommit d w => cases he; exact State.snooped_inv hev (.commitEntry d w) h
  | profileCommit n w => cases he; exact State.snooped_inv hev (.commitProfile n w) h
  | channelConfigCommit k w => cases he; exact State.snooped_inv hev (.commitChanConfig k w) h
  | generalConfigCommit w => cases he; exact State.snooped_inv hev (.commitGeneral w) h
  | toneDescriptorCommit t w => cases he; exact State.snooped_inv hev (.commitTone t w) h
  | ringCadenceCommit w => cases he; exact State.snooped_inv hev (.commitCadence w) h
  | start o =>
    cases he
    refine State.snooped_inv hev (Part.command_event _ _ _ _ fun hm => .start ?_) h
    exact Bool.not_eq_true' _ |>.mp hm
  | halt o => cases he; exact State.snooped_inv hev (Part.command_event _ _ _ _ fun _ => .halt) h
  | clearCalls o => cases he; exact State.snooped_inv hev (Part.command_event _ _ _ _ fun hm => .clearCalls hm) h
  | rescan o => cases he; exact State.snooped_inv hev (Part.command_event _ _ _ _ fun _ => .rescan) h
  | snapshot o => cases he; exact State.snooped_inv hev (Part.command_event _ _ _ _ fun _ => .snapshot) h
  | linkUp o => cases he; exact State.snooped_inv hev (Part.command_event _ _ _ _ fun _ => .linkUp) h
  | linkDown o => cases he; exact State.snooped_inv hev (Part.command_event _ _ _ _ fun _ => .linkDown) h
  | lineReset o => cases he; exact State.snooped_inv hev (Part.command_event _ _ _ _ fun hm => .lineReset o hm) h
  | channelReset o => cases he; exact State.snooped_inv hev (Part.command_event _ _ _ _ fun _ => .channelReset o) h
  | reportFlush o => cases he; exact State.snooped_inv hev (Part.command_event _ _ _ _ fun _ => .reportFlush) h
  | commandUndefined w =>
    cases he
    split
    · exact h
    · refine State.snooped_inv hev ?_ h
      unfold Part.undefinedCommand
      split
      · exact .noCommand
      · exact .refused _ _
  | echoWriteComplete =>
    cases he
    split
    · exact State.event_inv hev .echoCompleted h
    · exact h
  | rescanReadComplete =>
    cases he
    split
    · exact State.event_inv hev (.takeRead _) h
    · exact h
  | snapshotDisposal => cases he; exact State.eventIf_inv hev (fun _ => .takeDisposal) h
  | ready => cases he; exact State.eventIf_inv hev .linkReady h
  | readyLost => cases he; exact State.eventIf_inv hev .linkReadyLost h
  | wakeEdge => cases he; exact State.eventIf_inv hev (fun _ => .wake) h
  | startLimitExpiry => cases he; exact State.eventIf_inv hev .startLimit h
  | retryHoldoffExpiry => cases he; exact State.eventIf_inv hev .holdoff h
  | silenceExpiry => cases he; exact State.eventIf_inv hev .silence h
  | supplyAcceptance => cases he; exact State.eventIf_inv hev (fun _ => .acceptSupply) h
  | alertLimitExpiry n => cases he; exact State.eventIf_inv hev (fun _ => .alertExpired n) h
  | cadenceStepEnd n => cases he; exact State.eventIf_inv hev (fun _ => .cadence n) h
  | toneStepEnd n => cases he; exact State.eventIf_inv hev (fun _ => .tone n) h
  | headerStateWrite x w => cases he; exact State.snooped_inv hev (.headerWrite x w _) h
  | reportWordWriteComplete =>
    cases he
    split
    · exact State.event_inv hev .wordWritten h
    · exact h
  | ageTimerExpiry => cases he; exact State.eventIf_inv hev (fun _ => .ageExpired) h

end Invariant

end Sys2Proof.Machine
end

