-- ==== Sys2Proof/Laws/PerInstr.lean ====
section
/-! SUPPORT. The per-command family WellFormedRow: a well-formed command that writes a word of the switch area writes one
that its block takes (Table 9-2). -/

namespace Sys2Proof

open Sys2Proof.Machine

/-- The switch-area offset and the word of a command that is a write of a snooped window (Table 9-2). -/
def Instr.snoopedWrite : Instr → Option (Nat × Word)
  | .senseWrite n w => some (senseOffset n, w)
  | .signalInWrite k w => some (signalInOffset k, w)
  | .signalCodeInstall x w => some (codeOffset x, w)
  | .pendingWordWrite offset w => some (offset.toNat, w)
  | .directoryCommit d w => some (entryOffset d 3, w)
  | .profileCommit n w => some (profileOffset n 3, w)
  | .channelConfigCommit k w => some (chanConfigOffset k 1, w)
  | .generalConfigCommit w => some (generalOffset 31, w)
  | .toneDescriptorCommit t w => some (toneOffset t 7, w)
  | .ringCadenceCommit w => some (cadenceOffset 7, w)
  | .commandUndefined w => some (commandOffset, w)
  | .headerStateWrite buffer w => some (headerOffset buffer, w)
  | .start operand => some (commandOffset, commandWord Command.start.code operand)
  | .halt operand => some (commandOffset, commandWord Command.halt.code operand)
  | .clearCalls operand => some (commandOffset, commandWord Command.clearCalls.code operand)
  | .rescan operand => some (commandOffset, commandWord Command.rescan.code operand)
  | .snapshot operand => some (commandOffset, commandWord Command.snapshot.code operand)
  | .linkUp operand => some (commandOffset, commandWord Command.linkUp.code operand)
  | .linkDown operand => some (commandOffset, commandWord Command.linkDown.code operand)
  | .lineReset operand => some (commandOffset, commandWord Command.lineReset.code operand)
  | .channelReset operand => some (commandOffset, commandWord Command.channelReset.code operand)
  | .reportFlush operand => some (commandOffset, commandWord Command.reportFlush.code operand)
  | _ => none

/-- What is said of each row: a well-formed write of a word lies in the switch area, in a window that a block takes. -/
def Laws.WellFormedRow.Statement (i : Instr) : Prop :=
  i.wellFormed = true → ∀ off w, i.snoopedWrite = some (off, w) → off < 0x1000 ∧ (snoopWindow off).isSome = true

/-- A row that is no write of a snooped window. -/
theorem Laws.WellFormedRow.ofNone {i : Instr} (h : i.snoopedWrite = none) : Laws.WellFormedRow.Statement i := by
  intro _ off w hw
  rw [h] at hw
  cases hw

/-- A row that writes a word of a window. -/
theorem Laws.WellFormedRow.ofSome {i : Instr} {off : Nat} {w : Word} (h : i.snoopedWrite = some (off, w))
    (ho : i.wellFormed = true → off < 0x1000 ∧ (snoopWindow off).isSome = true) : Laws.WellFormedRow.Statement i := by
  intro hi off' w' hw
  rw [h] at hw
  cases hw
  exact ho hi

/-- A pending word lies in a window that the table loader takes. -/
theorem Laws.snoopWindow_pending : ∀ off : Nat, isPendingOffset off = true → off < 0x1000 ∧ (snoopWindow off).isSome = true := by
  intro off h
  simp only [isPendingOffset, Bool.or_eq_true, Bool.and_eq_true, decide_eq_true_eq] at h
  refine ⟨by omega, ?_⟩
  unfold snoopWindow
  repeat' split
  all_goals first | rfl | (exfalso; omega)

theorem Laws.WellFormedRow.resetAssertion : Laws.WellFormedRow.Statement .resetAssertion :=
  Laws.WellFormedRow.ofNone rfl

theorem Laws.WellFormedRow.resetRelease (area : Fin 4) : Laws.WellFormedRow.Statement (.resetRelease area) :=
  Laws.WellFormedRow.ofNone rfl

theorem Laws.WellFormedRow.frameStrobe (rrdy rwake supw : Bool) : Laws.WellFormedRow.Statement (.frameStrobe rrdy rwake supw) :=
  Laws.WellFormedRow.ofNone rfl

theorem Laws.WellFormedRow.forwardedAccessPresented (access : MasterAccess) : Laws.WellFormedRow.Statement (.forwardedAccessPresented access) :=
  Laws.WellFormedRow.ofNone rfl

theorem Laws.WellFormedRow.portAccessComplete : Laws.WellFormedRow.Statement .portAccessComplete :=
  Laws.WellFormedRow.ofNone rfl

theorem Laws.WellFormedRow.masterWrite (address data : Word) : Laws.WellFormedRow.Statement (.masterWrite address data) :=
  Laws.WellFormedRow.ofNone rfl

theorem Laws.WellFormedRow.senseWrite (n : Line) (w : Word) : Laws.WellFormedRow.Statement (.senseWrite n w) :=
  Laws.WellFormedRow.ofSome rfl fun h => by clear h; revert n; decide

theorem Laws.WellFormedRow.onHookMinExpiry (n : Line) : Laws.WellFormedRow.Statement (.onHookMinExpiry n) :=
  Laws.WellFormedRow.ofNone rfl

theorem Laws.WellFormedRow.interDigitPauseExpiry (n : Line) : Laws.WellFormedRow.Statement (.interDigitPauseExpiry n) :=
  Laws.WellFormedRow.ofNone rfl

theorem Laws.WellFormedRow.offHook (n : Line) : Laws.WellFormedRow.Statement (.offHook n) :=
  Laws.WellFormedRow.ofNone rfl

theorem Laws.WellFormedRow.onHook (n : Line) : Laws.WellFormedRow.Statement (.onHook n) :=
  Laws.WellFormedRow.ofNone rfl

theorem Laws.WellFormedRow.digit (n : Line) (d : Digit) : Laws.WellFormedRow.Statement (.digit n d) :=
  Laws.WellFormedRow.ofNone rfl

theorem Laws.WellFormedRow.misdial (n : Line) : Laws.WellFormedRow.Statement (.misdial n) :=
  Laws.WellFormedRow.ofNone rfl

theorem Laws.WellFormedRow.firstDigitLimitExpiry (n : Line) : Laws.WellFormedRow.Statement (.firstDigitLimitExpiry n) :=
  Laws.WellFormedRow.ofNone rfl

theorem Laws.WellFormedRow.interDigitLimitExpiry (n : Line) : Laws.WellFormedRow.Statement (.interDigitLimitExpiry n) :=
  Laws.WellFormedRow.ofNone rfl

theorem Laws.WellFormedRow.hotlineDelayExpiry (n : Line) : Laws.WellFormedRow.Statement (.hotlineDelayExpiry n) :=
  Laws.WellFormedRow.ofNone rfl

theorem Laws.WellFormedRow.cleardownLimitExpiry (n : Line) : Laws.WellFormedRow.Statement (.cleardownLimitExpiry n) :=
  Laws.WellFormedRow.ofNone rfl

theorem Laws.WellFormedRow.howlerTimeExpiry (n : Line) : Laws.WellFormedRow.Statement (.howlerTimeExpiry n) :=
  Laws.WellFormedRow.ofNone rfl

theorem Laws.WellFormedRow.startOrigination (n : Line) : Laws.WellFormedRow.Statement (.startOrigination n) :=
  Laws.WellFormedRow.ofNone rfl

theorem Laws.WellFormedRow.clearCallsLineTeardown (n : Line) : Laws.WellFormedRow.Statement (.clearCallsLineTeardown n) :=
  Laws.WellFormedRow.ofNone rfl

theorem Laws.WellFormedRow.clearCallsChannelClear (k : Chan) : Laws.WellFormedRow.Statement (.clearCallsChannelClear k) :=
  Laws.WellFormedRow.ofNone rfl

theorem Laws.WellFormedRow.queueTimerExpiry (n : Line) : Laws.WellFormedRow.Statement (.queueTimerExpiry n) :=
  Laws.WellFormedRow.ofNone rfl

theorem Laws.WellFormedRow.unusableTimerExpiry (n : Line) : Laws.WellFormedRow.Statement (.unusableTimerExpiry n) :=
  Laws.WellFormedRow.ofNone rfl

theorem Laws.WellFormedRow.signalInWrite (k : Chan) (w : Word) : Laws.WellFormedRow.Statement (.signalInWrite k w) :=
  Laws.WellFormedRow.ofSome rfl fun h => by clear h; revert k; decide

theorem Laws.WellFormedRow.seizeLimitExpiry (k : Chan) : Laws.WellFormedRow.Statement (.seizeLimitExpiry k) :=
  Laws.WellFormedRow.ofNone rfl

theorem Laws.WellFormedRow.digitHoldExpiry (k : Chan) : Laws.WellFormedRow.Statement (.digitHoldExpiry k) :=
  Laws.WellFormedRow.ofNone rfl

theorem Laws.WellFormedRow.digitGapExpiry (k : Chan) : Laws.WellFormedRow.Statement (.digitGapExpiry k) :=
  Laws.WellFormedRow.ofNone rfl

theorem Laws.WellFormedRow.incomingDigitLimitExpiry (k : Chan) : Laws.WellFormedRow.Statement (.incomingDigitLimitExpiry k) :=
  Laws.WellFormedRow.ofNone rfl

theorem Laws.WellFormedRow.releaseGuardExpiry (k : Chan) : Laws.WellFormedRow.Statement (.releaseGuardExpiry k) :=
  Laws.WellFormedRow.ofNone rfl

theorem Laws.WellFormedRow.recoveryTimeExpiry (k : Chan) : Laws.WellFormedRow.Statement (.recoveryTimeExpiry k) :=
  Laws.WellFormedRow.ofNone rfl

theorem Laws.WellFormedRow.stallExpiry (k : Chan) : Laws.WellFormedRow.Statement (.stallExpiry k) :=
  Laws.WellFormedRow.ofNone rfl

theorem Laws.WellFormedRow.channelLinkUp (k : Chan) : Laws.WellFormedRow.Statement (.channelLinkUp k) :=
  Laws.WellFormedRow.ofNone rfl

theorem Laws.WellFormedRow.channelLinkDown (k : Chan) : Laws.WellFormedRow.Statement (.channelLinkDown k) :=
  Laws.WellFormedRow.ofNone rfl

theorem Laws.WellFormedRow.signalOutRead (k : Chan) : Laws.WellFormedRow.Statement (.signalOutRead k) :=
  Laws.WellFormedRow.ofNone rfl

theorem Laws.WellFormedRow.channelListenRead (k : Chan) : Laws.WellFormedRow.Statement (.channelListenRead k) :=
  Laws.WellFormedRow.ofNone rfl

theorem Laws.WellFormedRow.lineListenRead (n : Line) : Laws.WellFormedRow.Statement (.lineListenRead n) :=
  Laws.WellFormedRow.ofNone rfl

theorem Laws.WellFormedRow.lineDriveRead (n : Line) : Laws.WellFormedRow.Statement (.lineDriveRead n) :=
  Laws.WellFormedRow.ofNone rfl

theorem Laws.WellFormedRow.signalCodeInstall (x : Code) (w : Word) : Laws.WellFormedRow.Statement (.signalCodeInstall x w) :=
  Laws.WellFormedRow.ofSome rfl fun h => by clear h; revert x; decide

theorem Laws.WellFormedRow.pendingWordWrite (offset : Offset) (w : Word) : Laws.WellFormedRow.Statement (.pendingWordWrite offset w) :=
  Laws.WellFormedRow.ofSome rfl fun h => Laws.snoopWindow_pending _ h

theorem Laws.WellFormedRow.directoryCommit (d : EntryIx) (w : Word) : Laws.WellFormedRow.Statement (.directoryCommit d w) :=
  Laws.WellFormedRow.ofSome rfl fun h => by clear h; revert d; decide

theorem Laws.WellFormedRow.profileCommit (n : Line) (w : Word) : Laws.WellFormedRow.Statement (.profileCommit n w) :=
  Laws.WellFormedRow.ofSome rfl fun h => by clear h; revert n; decide

theorem Laws.WellFormedRow.channelConfigCommit (k : Chan) (w : Word) : Laws.WellFormedRow.Statement (.channelConfigCommit k w) :=
  Laws.WellFormedRow.ofSome rfl fun h => by clear h; revert k; decide

theorem Laws.WellFormedRow.generalConfigCommit (w : Word) : Laws.WellFormedRow.Statement (.generalConfigCommit w) :=
  Laws.WellFormedRow.ofSome rfl fun _ => by decide

theorem Laws.WellFormedRow.toneDescriptorCommit (t : ToneIx) (w : Word) : Laws.WellFormedRow.Statement (.toneDescriptorCommit t w) :=
  Laws.WellFormedRow.ofSome rfl fun h => by clear h; revert t; decide

theorem Laws.WellFormedRow.ringCadenceCommit (w : Word) : Laws.WellFormedRow.Statement (.ringCadenceCommit w) :=
  Laws.WellFormedRow.ofSome rfl fun _ => by decide

theorem Laws.WellFormedRow.start (operand : BitVec 8) : Laws.WellFormedRow.Statement (.start operand) :=
  Laws.WellFormedRow.ofSome rfl fun _ => by decide

theorem Laws.WellFormedRow.halt (operand : BitVec 8) : Laws.WellFormedRow.Statement (.halt operand) :=
  Laws.WellFormedRow.ofSome rfl fun _ => by decide

theorem Laws.WellFormedRow.clearCalls (operand : BitVec 8) : Laws.WellFormedRow.Statement (.clearCalls operand) :=
  Laws.WellFormedRow.ofSome rfl fun _ => by decide

theorem Laws.WellFormedRow.rescan (operand : BitVec 8) : Laws.WellFormedRow.Statement (.rescan operand) :=
  Laws.WellFormedRow.ofSome rfl fun _ => by decide

theorem Laws.WellFormedRow.snapshot (operand : BitVec 8) : Laws.WellFormedRow.Statement (.snapshot operand) :=
  Laws.WellFormedRow.ofSome rfl fun _ => by decide

theorem Laws.WellFormedRow.linkUp (operand : BitVec 8) : Laws.WellFormedRow.Statement (.linkUp operand) :=
  Laws.WellFormedRow.ofSome rfl fun _ => by decide

theorem Laws.WellFormedRow.linkDown (operand : BitVec 8) : Laws.WellFormedRow.Statement (.linkDown operand) :=
  Laws.WellFormedRow.ofSome rfl fun _ => by decide

theorem Laws.WellFormedRow.lineReset (operand : BitVec 8) : Laws.WellFormedRow.Statement (.lineReset operand) :=
  Laws.WellFormedRow.ofSome rfl fun _ => by decide

theorem Laws.WellFormedRow.channelReset (operand : BitVec 8) : Laws.WellFormedRow.Statement (.channelReset operand) :=
  Laws.WellFormedRow.ofSome rfl fun _ => by decide

theorem Laws.WellFormedRow.reportFlush (operand : BitVec 8) : Laws.WellFormedRow.Statement (.reportFlush operand) :=
  Laws.WellFormedRow.ofSome rfl fun _ => by decide

theorem Laws.WellFormedRow.commandUndefined (w : Word) : Laws.WellFormedRow.Statement (.commandUndefined w) :=
  Laws.WellFormedRow.ofSome rfl fun _ => by decide

theorem Laws.WellFormedRow.echoWriteComplete : Laws.WellFormedRow.Statement .echoWriteComplete :=
  Laws.WellFormedRow.ofNone rfl

theorem Laws.WellFormedRow.rescanReadComplete : Laws.WellFormedRow.Statement .rescanReadComplete :=
  Laws.WellFormedRow.ofNone rfl

theorem Laws.WellFormedRow.snapshotDisposal : Laws.WellFormedRow.Statement .snapshotDisposal :=
  Laws.WellFormedRow.ofNone rfl

theorem Laws.WellFormedRow.ready : Laws.WellFormedRow.Statement .ready :=
  Laws.WellFormedRow.ofNone rfl

theorem Laws.WellFormedRow.readyLost : Laws.WellFormedRow.Statement .readyLost :=
  Laws.WellFormedRow.ofNone rfl

theorem Laws.WellFormedRow.wakeEdge : Laws.WellFormedRow.Statement .wakeEdge :=
  Laws.WellFormedRow.ofNone rfl

theorem Laws.WellFormedRow.startLimitExpiry : Laws.WellFormedRow.Statement .startLimitExpiry :=
  Laws.WellFormedRow.ofNone rfl

theorem Laws.WellFormedRow.retryHoldoffExpiry : Laws.WellFormedRow.Statement .retryHoldoffExpiry :=
  Laws.WellFormedRow.ofNone rfl

theorem Laws.WellFormedRow.silenceExpiry : Laws.WellFormedRow.Statement .silenceExpiry :=
  Laws.WellFormedRow.ofNone rfl

theorem Laws.WellFormedRow.supplyAcceptance : Laws.WellFormedRow.Statement .supplyAcceptance :=
  Laws.WellFormedRow.ofNone rfl

theorem Laws.WellFormedRow.alertLimitExpiry (n : Line) : Laws.WellFormedRow.Statement (.alertLimitExpiry n) :=
  Laws.WellFormedRow.ofNone rfl

theorem Laws.WellFormedRow.cadenceStepEnd (n : Line) : Laws.WellFormedRow.Statement (.cadenceStepEnd n) :=
  Laws.WellFormedRow.ofNone rfl

theorem Laws.WellFormedRow.toneStepEnd (n : Line) : Laws.WellFormedRow.Statement (.toneStepEnd n) :=
  Laws.WellFormedRow.ofNone rfl

theorem Laws.WellFormedRow.headerStateWrite (buffer : BufferId) (w : Word) : Laws.WellFormedRow.Statement (.headerStateWrite buffer w) :=
  Laws.WellFormedRow.ofSome rfl fun _ => by cases buffer <;> decide

theorem Laws.WellFormedRow.reportWordWriteComplete : Laws.WellFormedRow.Statement .reportWordWriteComplete :=
  Laws.WellFormedRow.ofNone rfl

theorem Laws.WellFormedRow.ageTimerExpiry : Laws.WellFormedRow.Statement .ageTimerExpiry :=
  Laws.WellFormedRow.ofNone rfl

end Sys2Proof
end

