-- ==== Sys2Proof/Laws/Preempt.lean ====
section
/-! SUPPORT. A new preemption attempt made inside an event (R79) always finds rounds left: the bound of `Part.attempt` is met
in no state, reached or not. -/

namespace Sys2Proof.Machine

/-- A channel that a preemption attempt can take: of class NORMAL, not draining, in one of the six call states (R77). -/
def ChanRecord.takeable (c : ChanRecord) : Bool := c.callClass == some .normal && !c.draining && c.state.clearable

/-- The lines with an entry. -/
def Part.waitingLines (p : Part) : Finset Line := Finset.univ.filter fun n => (p.alloc.waiters[n]).isSome

/-- The channels that an attempt can take. -/
def Part.takeableChans (p : Part) : Finset Chan := Finset.univ.filter fun k => (p.chans[k]).takeable

/-- What the attempts of one event use up: each takes a channel, or a channel taken is granted and an entry leaves. -/
def Part.reach (p : Part) : Nat := p.waitingLines.card + p.takeableChans.card

theorem Part.reach_le_sixty (p : Part) : p.reach ≤ 60 := by
  have h1 : p.waitingLines.card ≤ 48 := (Finset.card_le_univ _).trans (by simp)
  have h2 : p.takeableChans.card ≤ 12 := (Finset.card_le_univ _).trans (by simp)
  unfold Part.reach
  omega

theorem Part.mem_waitingLines {p : Part} {n : Line} : n ∈ p.waitingLines ↔ (p.alloc.waiters[n]).isSome = true := by
  simp only [Part.waitingLines, Finset.mem_filter, Finset.mem_univ, true_and]

theorem Part.mem_takeableChans {p : Part} {k : Chan} : k ∈ p.takeableChans ↔ (p.chans[k]).takeable = true := by
  simp only [Part.takeableChans, Finset.mem_filter, Finset.mem_univ, true_and]

/-- Nothing new to take and no new entry. -/
theorem Part.reach_le {p q : Part} (hw : q.waitingLines ⊆ p.waitingLines) (ht : q.takeableChans ⊆ p.takeableChans) :
    q.reach ≤ p.reach := Nat.add_le_add (Finset.card_le_card hw) (Finset.card_le_card ht)

/-! ## What each operation leaves -/

@[simp] theorem Part.hand_waitingLines (p : Part) (kind : RecordKind) (x : Subject) (a b : Word) (tag : SnapshotTag) :
    (p.hand kind x a b tag).waitingLines = p.waitingLines := by simp [Part.waitingLines]
@[simp] theorem Part.hand_takeableChans (p : Part) (kind : RecordKind) (x : Subject) (a b : Word) (tag : SnapshotTag) :
    (p.hand kind x a b tag).takeableChans = p.takeableChans := by simp [Part.takeableChans]

@[simp] theorem Part.setWaiter_takeableChans (p : Part) (n : Line) (w : Option WaitEntry) :
    (p.setWaiter n w).takeableChans = p.takeableChans := rfl

theorem Part.setWaiter_waitingLines_some {p : Part} {n : Line} {e : WaitEntry} (h : p.alloc.waiters[n] = some e)
    (f : WaitEntry) : (p.setWaiter n (some f)).waitingLines = p.waitingLines := by
  ext m
  simp only [Part.mem_waitingLines, Part.setWaiter, getElem_set_fin]
  split
  · rename_i hm
    subst hm
    simp [h]
  · rfl

theorem Part.setWaiter_waitingLines_none (p : Part) (n : Line) :
    (p.setWaiter n none).waitingLines = p.waitingLines.erase n := by
  ext m
  simp only [Part.mem_waitingLines, Part.setWaiter, getElem_set_fin, Finset.mem_erase]
  split
  · rename_i hm
    simp [hm]
  · rename_i hm
    simp [Ne.symm hm]

@[simp] theorem Part.enterLine_waitingLines (p : Part) (n : Line) (st : LineState) (c : Option Cause) (h : Bool) :
    (p.enterLine n st c h).waitingLines = p.waitingLines := by simp [Part.waitingLines]
@[simp] theorem Part.enterLine_takeableChans (p : Part) (n : Line) (st : LineState) (c : Option Cause) (h : Bool) :
    (p.enterLine n st c h).takeableChans = p.takeableChans := by simp [Part.takeableChans]

@[simp] theorem Part.setPartner_waitingLines (p : Part) (n : Line) (x : Option Partner) (r : Option Role) :
    (p.setPartner n x r).waitingLines = p.waitingLines := rfl
@[simp] theorem Part.setPartner_takeableChans (p : Part) (n : Line) (x : Option Partner) (r : Option Role) :
    (p.setPartner n x r).takeableChans = p.takeableChans := rfl

@[simp] theorem Part.breakChan_waitingLines (p : Part) (k : Chan) : (p.breakChan k).waitingLines = p.waitingLines := by
  unfold Part.breakChan
  split <;> rfl

@[simp] theorem Part.breakChan_takeableChans (p : Part) (k : Chan) : (p.breakChan k).takeableChans = p.takeableChans := by
  unfold Part.breakChan
  split
  · rfl
  · ext j
    simp only [Part.mem_takeableChans, Part.setChanPartner, Part.setChan, getElem_set_fin]
    split
    · rename_i hj
      subst hj
      rfl
    · rfl

@[simp] theorem Part.enterChan_waitingLines (p : Part) (k : Chan) (st : ChanState) (r : Option RejectCode) :
    (p.enterChan k st r).waitingLines = p.waitingLines := by
  unfold Part.enterChan
  simp only
  split <;> simp [Part.waitingLines, Part.handChanState, Part.setChan, Part.judgeUnusable]

theorem ChanRecord.enter_state (c : ChanRecord) (st : ChanState) (r : Option RejectCode) :
    (c.enter st r).state = c.destination st := by
  unfold ChanRecord.enter ChanRecord.emptied ChanRecord.offlined
  simp only
  split <;> split <;> rfl

/-- A channel that enters a state is taken out, or stays when its new record can be taken; the others stay. -/
theorem Part.enterChan_takeableChans (p : Part) (k : Chan) (st : ChanState) (r : Option RejectCode) :
    (p.enterChan k st r).takeableChans ⊆ insert k p.takeableChans ∧
      ((st.clearable = false) → (p.enterChan k st r).takeableChans ⊆ p.takeableChans.erase k) := by
  have key : ∀ j : Chan, ((p.enterChan k st r).chans[j]).takeable = true →
      (j = k ∧ (p.chans[k].enter st r).takeable = true) ∨ (j ≠ k ∧ (p.chans[j]).takeable = true) := by
    intro j hj
    rw [Part.enterChan_chans, getElem_set_fin] at hj
    split at hj
    · rename_i h
      exact .inl ⟨h.symm, hj⟩
    · rename_i h
      exact .inr ⟨Ne.symm h, hj⟩
  refine ⟨fun j hj => ?_, fun hst j hj => ?_⟩ <;>
    simp only [Part.mem_takeableChans, Finset.mem_insert, Finset.mem_erase] at hj ⊢ <;>
    rcases key j hj with ⟨h, h'⟩ | ⟨h, h'⟩
  · exact .inl h
  · exact .inr h'
  · exfalso
    simp only [ChanRecord.takeable, ChanRecord.enter_state, Bool.and_eq_true] at h'
    rcases h' with ⟨-, h'⟩
    unfold ChanRecord.destination at h'
    split at h'
    · cases h'
    · rw [hst] at h'
      cases h'
  · exact ⟨h, h'⟩

theorem Part.dropLine_waitingLines (p : Part) (n : Line) (c : Cause) :
    (p.dropLine n c).waitingLines ⊆ p.waitingLines := by
  unfold Part.dropLine
  simp only
  split <;> first
    | exact Finset.Subset.refl _
    | (simp [Part.waitingLines]; done)
    | (split <;> simp [Part.setWaiter_waitingLines_none, Finset.erase_subset])

theorem Part.dropLine_takeableChans (p : Part) (n : Line) (c : Cause) :
    (p.dropLine n c).takeableChans = p.takeableChans := by
  unfold Part.dropLine
  simp only
  split <;> first
    | rfl
    | (simp [Part.takeableChans]; done)
    | (split <;> simp)

theorem Part.dropLine_reach (p : Part) (n : Line) (c : Cause) : (p.dropLine n c).reach ≤ p.reach :=
  Part.reach_le (p.dropLine_waitingLines n c) (p.dropLine_takeableChans n c).subset

/-- A grant takes the entry of its line away and makes at most its channel takeable. -/
theorem Part.grant_reach (p : Part) (k : Chan) (n : Line) : (p.grant k n).reach ≤ p.reach := by
  unfold Part.grant
  split
  · exact Nat.le_refl _
  · rename_i e he
    have hmem : n ∈ p.waitingLines := by rw [Part.mem_waitingLines, he]; rfl
    set q := (({ p with alloc := { p.alloc with
      pointers := p.alloc.pointers.set k.val (p.alloc.pointers[k].moved e.callClass n) } } : Part).setWaiter n none) with hq
    have hw : q.waitingLines = p.waitingLines.erase n := by
      rw [hq, Part.setWaiter_waitingLines_none]
      rfl
    have ht : q.takeableChans = p.takeableChans := rfl
    have hw1 : (((q.setPartner n (some (.chan k)) (some .caller)).enterLine n .trunkSetup).seize k n
        e.callClass).waitingLines = p.waitingLines.erase n := by
      rw [Part.seize, Part.enterChan_waitingLines]
      exact (Part.enterLine_waitingLines ..).trans hw
    have ht1 : (((q.setPartner n (some (.chan k)) (some .caller)).enterLine n .trunkSetup).seize k n
        e.callClass).takeableChans ⊆ insert k p.takeableChans := by
      intro j hj
      rw [Part.seize] at hj
      rcases Finset.mem_insert.1 ((Part.enterChan_takeableChans _ k _ _).1 hj) with h | h
      · exact Finset.mem_insert.2 (.inl h)
      · by_cases hjk : j = k
        · exact Finset.mem_insert.2 (.inl hjk)
        · refine Finset.mem_insert.2 (.inr ?_)
          rw [← ht]
          rw [Part.mem_takeableChans, Part.setChan_chans, getElem_set_fin, if_neg (Ne.symm hjk)] at h
          rw [Part.mem_takeableChans]
          simpa using h
    have c1 := Finset.card_erase_of_mem hmem
    have c2 := (Finset.card_le_card ht1).trans (Finset.card_insert_le k p.takeableChans)
    have c3 := Finset.card_pos.2 ⟨n, hmem⟩
    refine Nat.le_trans (Nat.le_of_eq (congrArg (· + _) (congrArg Finset.card hw1))) ?_
    show (p.waitingLines.erase n).card + Finset.card _ ≤ p.waitingLines.card + p.takeableChans.card
    exact (Nat.add_le_add_left c2 _).trans (by omega)

theorem Part.channelFree_reach (p : Part) (k : Chan) : (p.channelFree k).reach ≤ p.reach := by
  unfold Part.channelFree
  split
  · exact Nat.le_refl _
  · split
    · exact Nat.le_refl _
    · exact p.grant_reach k _

/-! ## The attempts of one event -/

/-- Trying every line again with two kinds of attempt that agree below a bound, and that never add to what is left. -/
theorem Part.retry_fold {a b : Part → Line → Part} {r : Nat} {k : Chan}
    (h : ∀ p n, Part.reach p < r → b p n = a p n ∧ (a p n).reach ≤ p.reach) (lines : List Line) (p : Part)
    (hp : p.reach < r) :
    lines.foldl (Part.retry b k) p = lines.foldl (Part.retry a k) p ∧
      (lines.foldl (Part.retry a k) p).reach ≤ p.reach := by
  induction lines generalizing p with
  | nil => exact ⟨rfl, Nat.le_refl _⟩
  | cons n lines ih =>
    have hstep : Part.retry b k p n = Part.retry a k p n ∧ (Part.retry a k p n).reach ≤ p.reach := by
      unfold Part.retry
      split
      · rename_i e he
        split
        · have hr : (p.setWaiter n (some { e with outstanding := none })).reach = p.reach := by
            simp [Part.reach, Part.setWaiter_waitingLines_some he]
          have h' := h (p.setWaiter n (some { e with outstanding := none })) n (hr ▸ hp)
          exact ⟨h'.1, h'.2.trans hr.le⟩
        · exact ⟨rfl, Nat.le_refl _⟩
      · exact ⟨rfl, Nat.le_refl _⟩
    rw [List.foldl_cons, List.foldl_cons, hstep.1]
    have h' := ih _ (hstep.2.trans_lt hp)
    exact ⟨h'.1, h'.2.trans hstep.2⟩

theorem Part.leaveWith_stable {a b : Part → Line → Part} {r : Nat}
    (h : ∀ p n, Part.reach p < r → b p n = a p n ∧ (a p n).reach ≤ p.reach) (p : Part) (k : Chan) (hp : p.reach < r) :
    p.leaveWith b k = p.leaveWith a k ∧ (p.leaveWith a k).reach ≤ p.reach := by
  unfold Part.leaveWith
  split
  · have hf := p.channelFree_reach k
    have h' := Part.retry_fold (k := k) h (List.finRange 48) _ (hf.trans_lt hp)
    exact ⟨h'.1, h'.2.trans hf⟩
  · exact Part.retry_fold h (List.finRange 48) p hp

/-- A channel that enters a state without a call leaves no more to take. -/
theorem Part.enterChan_reach {p : Part} {k : Chan} {st : ChanState} (h : st.clearable = false) :
    (p.enterChan k st).reach ≤ p.reach :=
  Part.reach_le (by simp) (((Part.enterChan_takeableChans p k st none).2 h).trans (Finset.erase_subset ..))

theorem Part.enterChan_reach_lt {p : Part} {k : Chan} {st : ChanState} (h : st.clearable = false)
    (hk : k ∈ p.takeableChans) : (p.enterChan k st).reach < p.reach := by
  unfold Part.reach
  rw [Part.enterChan_waitingLines]
  exact Nat.add_lt_add_left
    ((Finset.card_le_card ((Part.enterChan_takeableChans p k st none).2 h)).trans_lt (Finset.card_erase_lt_of_mem hk)) _

theorem Part.clearChanWith_stable {a b : Part → Line → Part} {r : Nat}
    (h : ∀ p n, Part.reach p < r → b p n = a p n ∧ (a p n).reach ≤ p.reach) {p : Part} {k : Chan}
    (hk : k ∈ p.takeableChans) (hp : p.reach < r + 1) :
    p.clearChanWith b k = p.clearChanWith a k ∧ (p.clearChanWith a k).reach ≤ p.reach := by
  have hb : (p.breakChan k).reach = p.reach := by simp [Part.reach]
  have hc := Part.enterChan_reach_lt (p := p.breakChan k) (k := k) (st := .clearing) rfl (by simpa using hk)
  rw [hb] at hc
  unfold Part.clearChanWith
  split
  · simp only
    split
    · have hi := Part.enterChan_reach (p := (p.breakChan k).enterChan k .clearing) (k := k) (st := .idle) rfl
      have h' := Part.leaveWith_stable h _ k ((hi.trans_lt hc).trans_le (Nat.lt_succ_iff.1 hp))
      exact ⟨h'.1, h'.2.trans (hi.trans hc.le)⟩
    · split
      · exact ⟨rfl, (Part.enterChan_reach rfl).trans hc.le⟩
      · exact ⟨rfl, hc.le⟩
  · exact ⟨rfl, Nat.le_refl _⟩

/-- The victim of an attempt can be taken. -/
theorem Part.victim_mem {p : Part} {e : WaitEntry} {k : Chan} (h : p.victim e = some k) : k ∈ p.takeableChans := by
  have := List.find?_some h
  simp only [Bool.and_eq_true] at this
  rw [Part.mem_takeableChans]
  simp only [ChanRecord.takeable, Bool.and_eq_true]
  exact ⟨⟨this.1.1.2, this.1.2⟩, this.2⟩

/-- With more rounds than there is left to take, one round more makes no difference, and what is left does not grow. -/
theorem Part.attempt_stable (r : Nat) : ∀ (p : Part) (n : Line), p.reach < r →
    Part.attempt (r + 1) p n = Part.attempt r p n ∧ (Part.attempt r p n).reach ≤ p.reach := by
  induction r with
  | zero => exact fun p n h => absurd h (Nat.not_lt_zero _)
  | succ r ih =>
    intro p n hp
    rw [Part.attempt.eq_def (r + 1 + 1), Part.attempt.eq_def (r + 1)]
    simp only
    split
    · exact ⟨rfl, Nat.le_refl _⟩
    · rename_i e he
      split
      · exact ⟨rfl, Nat.le_refl _⟩
      · rename_i k hk
        have hr : ∀ q : Part, (q.hand .preempted (.chan k) (detail1 n.val) (lineDetail p.chans[k].partner)).reach =
            q.reach := fun q => by simp [Part.reach]
        have he' : (p.hand .preempted (.chan k) (detail1 n.val) (lineDetail p.chans[k].partner)).alloc.waiters[n] =
            some e := by simpa using he
        have hs : ((p.hand .preempted (.chan k) (detail1 n.val) (lineDetail p.chans[k].partner)).setWaiter n
            (some { e with outstanding := some k })).reach = p.reach := by
          rw [← hr p]
          simp only [Part.reach, Part.setWaiter_waitingLines_some he', Part.setWaiter_takeableChans]
        have hc := Part.clearChanWith_stable (k := k) ih (by simpa using Part.victim_mem hk) (hs.trans_lt hp)
        rw [hs] at hc
        rw [hc.1]
        refine ⟨rfl, ?_⟩
        split
        · exact hc.2
        · exact (Part.dropLine_reach ..).trans hc.2

/-- An attempt made inside an attempt is one like any other: its rounds are never short. -/
theorem Part.attempt_eq_preempt (p : Part) (n : Line) (r : Nat) (h : 61 ≤ r) : Part.attempt r p n = p.preempt n := by
  obtain ⟨d, rfl⟩ := Nat.exists_eq_add_of_le h
  induction d with
  | zero => exact (Part.attempt_stable 61 p n (p.reach_le_sixty.trans_lt (by decide))).1.symm
  | succ d ih =>
    rw [← ih (Nat.le_add_right ..)]
    exact (Part.attempt_stable (61 + d) p n (p.reach_le_sixty.trans_lt (by omega))).1

/-- R77, R78, R101: what an attempt does, in the operations that every other event uses. -/
theorem Part.preempt_eq (p : Part) (n : Line) : p.preempt n =
    match p.alloc.waiters[n] with
    | none => p
    | some e =>
      match p.victim e with
      | none => p
      | some k =>
        let told := (p.hand .preempted (.chan k) (detail1 n.val) (lineDetail p.chans[k].partner)).setWaiter n
          (some { e with outstanding := some k })
        match p.chans[k].partner with
        | none => told.clearChan k
        | some m => (told.clearChan k).dropLine m .preempted := by
  have h : Part.attempt 61 = Part.preempt := funext fun q => funext fun m => q.attempt_eq_preempt m 61 (Nat.le_refl _)
  rw [Part.preempt, show Config.preemptionRounds = 61 + 1 from rfl, Part.attempt, h]
  rfl

end Sys2Proof.Machine
end

