-- ==== Sys2Proof/Laws/Rows.lean ====
section
/-! SUPPORT. What the command rows, the table words and the translated reads are, said once: the provers cite these and do
not unfold the meanings. -/

namespace Sys2Proof.Machine

/-! ## The command word (R171) -/

/-- The effect of an accepted command. -/
def Command.effect (c : Command) (operand : BitVec 8) : Part → Part :=
  match c with
  | .start => fun p => p.short .start Part.start
  | .halt => fun p => p.short .halt Part.halt
  | .clearCalls => Part.clearCalls
  | .rescan => Part.rescan
  | .snapshot => Part.snapshot
  | .linkUp => fun p => p.short .linkUp Part.linkUp
  | .linkDown => fun p => p.short .linkDown Part.linkDown
  | .lineReset => fun p => p.short .lineReset (·.lineReset operand)
  | .channelReset => fun p => p.short .channelReset (·.channelReset operand)
  | .reportFlush => fun p => p.short .reportFlush (·.closeOrPend .flush)

/-- Each command row is the judging of its command with its effect. -/
theorem exec_command {s : State} {c : Command} {operand : BitVec 8} (h : s.takesWrite 0x748 (c.code ++ operand)) :
    exec (c.instr operand) s =
      .next ((s.served 0x748 (c.code ++ operand)).after (s.part.command c operand (c.effect operand))) := by
  cases c <;>
    simp only [Command.instr, exec, execStart, execHalt, execClearCalls, execRescan, execSnapshot, execLinkUp,
      execLinkDown, execLineReset, execChannelReset, execReportFlush, State.commandEvent, commandWord, commandOffset] <;>
    rw [State.snooped_after (by exact h)] <;> rfl

/-- A command that no check refuses takes its effect, with the sequence count raised. -/
theorem Part.command_accepted {p : Part} {c : Command} {operand : BitVec 8} (effect : Part → Part)
    (hl : p.cmd.long = .none) (hm : p.modeAllows c = true) (ho : operandOk c operand = true) :
    p.command c operand effect = effect p.raiseSequence := by
  have hr : p.raiseSequence.commandRefusal c operand = none := by
    simp only [Part.commandRefusal]
    rw [if_neg, if_neg, if_neg]
    · simp [ho]
    · have he : p.raiseSequence.modeAllows c = p.modeAllows c := by cases c <;> rfl
      simp [he, hm]
    · simp [Part.raiseSequence, Part.longInProgress, hl]
  simp only [Part.command, hr]

/-- A long command is in progress exactly when the command unit holds one. -/
theorem Part.longInProgress_iff (p : Part) : p.longInProgress = true ↔ p.cmd.long ≠ .none := by
  unfold Part.longInProgress
  split <;> simp_all

/-! ## Table words by their offset (R166, R177) -/

theorem Part.tableWord_at (p : Part) (off : Nat) (w : Word) :
   (∀ x : Code, off = 0x150 + x.val → p.tableWord off w = p.installCode x w) ∧
    (isPendingOffset off = true → p.tableWord off w = p.writePending off w) ∧
    (∀ n : Line, off = 0x603 + 4 * n.val → p.tableWord off w = p.commitProfile n w) ∧
    (∀ k : Chan, off = 0x6C1 + 2 * k.val → p.tableWord off w = p.commitChanConfig k w) ∧
    (off = 0x6FF → p.tableWord off w = p.commitGeneral w) ∧
    (∀ x : ToneIx, off = 0x707 + 8 * x.val → p.tableWord off w = p.commitTone x w) ∧
    (off = 0x747 → p.tableWord off w = p.commitCadence w) ∧
    (∀ d : EntryIx, off = 0x803 + 4 * d.val → p.tableWord off w = p.commitEntry d w) := by
  refine ⟨?_, ?_, ?_, ?_, ?_, ?_, ?_, ?_⟩
  · rintro x rfl
    have : isPendingOffset (0x150 + x.val) = false := by revert x; decide
    simp only [Part.tableWord, this]; rw [if_neg (by simp), if_pos (by omega)]
    have : asFin 20 (0x150 + x.val - 0x150) = some x := by simp [asFin]
    rw [this]
  · intro h; simp only [Part.tableWord]; rw [if_pos h]
  · rintro n rfl
    have : isPendingOffset (0x603 + 4 * n.val) = false := by revert n; decide
    simp only [Part.tableWord, this]; rw [if_neg (by simp), if_neg (by omega), if_pos (by omega)]
    have : asFin 48 ((0x603 + 4 * n.val - 0x600) / 4) = some n := by
      have : (0x603 + 4 * n.val - 0x600) / 4 = n.val := by omega
      rw [this]; simp [asFin]
    rw [this]
  · rintro n rfl
    have : isPendingOffset (0x6C1 + 2 * n.val) = false := by revert n; decide
    simp only [Part.tableWord, this]; rw [if_neg (by simp), if_neg (by omega), if_neg (by omega), if_pos (by omega)]
    have : asFin 12 ((0x6C1 + 2 * n.val - 0x6C0) / 2) = some n := by
      have : (0x6C1 + 2 * n.val - 0x6C0) / 2 = n.val := by omega
      rw [this]; simp [asFin]
    rw [this]
  · rintro rfl; rfl
  · rintro n rfl
    have : isPendingOffset (0x707 + 8 * n.val) = false := by revert n; decide
    simp only [Part.tableWord, this]; rw [if_neg (by simp), if_neg (by omega), if_neg (by omega), if_neg (by omega), if_neg (by omega), if_pos (by omega)]
    have : asFin 8 ((0x707 + 8 * n.val - 0x700) / 8) = some n := by
      have : (0x707 + 8 * n.val - 0x700) / 8 = n.val := by omega
      rw [this]; simp [asFin]
    rw [this]
  · rintro rfl; rfl
  · rintro n rfl
    have : isPendingOffset (0x803 + 4 * n.val) = false := by revert n; decide
    simp only [Part.tableWord, this]; rw [if_neg (by simp), if_neg (by omega), if_neg (by omega), if_neg (by omega), if_neg (by omega), if_neg (by omega), if_neg (by omega)]
    have : asFin 64 ((0x803 + 4 * n.val - 0x800) / 4) = some n := by
      have : (0x803 + 4 * n.val - 0x800) / 4 = n.val := by omega
      rw [this]; simp [asFin]
    rw [this]


/-! ## Translated reads (R147 to R150, R90) -/

theorem offsetOf_addressOf (area : Fin 4) (off : Nat) (h : off < 0x1000) :
    offsetOf area (addressOf area off) = some off := by
  have := area.isLt
  unfold offsetOf addressOf areaBase
  simp only [BitVec.toNat_ofNat]
  rw [Nat.mod_eq_of_lt (by omega), if_pos (by omega)]
  congr 1; omega

theorem State.readWord_live {s : State} {off : Nat} (ho : off < 0x1000) (h : s.live) (hi : s.path.idle = true) :
   s.readWord off = s.readFrom off (s.part.translate off).1 (s.part.translate off).2 := by
  unfold State.live at h
  simp [State.readWord, hi, State.readFrom, Path.readSource, h, offsetOf_addressOf _ _ ho]

theorem asFin_lt {b v : Nat} (h : v < b) : asFin b v = some ⟨v, h⟩ := by simp [asFin, h]

theorem asFin_ge {b v : Nat} (h : ¬ v < b) : asFin b v = none := by simp [asFin, h]

theorem Part.translate_lineListen (p : Part) (n : Line) :
    p.translate (0x040 + n.val) = (p.listenSource n, p.lines[n].profile.level) := by
  have := n.isLt
  unfold Part.translate
  rw [if_neg (by omega), show 64 + n.val - 64 = n.val by omega, asFin_lt this]

theorem Part.translate_lineDrive (p : Part) (n : Line) :
    p.translate (0x0C0 + n.val) = (patternOffset (p.drivePattern n), .unity) := by
  have := n.isLt
  unfold Part.translate
  rw [if_neg (by omega), asFin_ge (by omega)]; simp only
  rw [if_neg (by omega), show 0xC0 + n.val - 0xC0 = n.val by omega, asFin_lt this]

theorem Part.translate_chanListen (p : Part) (n : Chan) :
    p.translate (0x110 + n.val) = (p.chanListenSource n, .unity) := by
  have := n.isLt
  unfold Part.translate
  rw [if_neg (by omega), asFin_ge (by omega)]; simp only
  rw [if_neg (by omega), asFin_ge (by omega)]; simp only
  rw [if_neg (by omega), show 0x110 + n.val - 0x110 = n.val by omega, asFin_lt this]

theorem Part.translate_signalOut (p : Part) (n : Chan) :
    p.translate (0x130 + n.val) = (p.signalOutSource n, .unity) := by
  have := n.isLt
  unfold Part.translate
  rw [if_neg (by omega), asFin_ge (by omega)]; simp only
  rw [if_neg (by omega), asFin_ge (by omega)]; simp only
  rw [if_neg (by omega), asFin_ge (by omega)]; simp only
  rw [if_neg (by omega), show 0x130 + n.val - 0x130 = n.val by omega, asFin_lt this]

/-! ## Searches over the lines and channels -/

/-- The first index that passes a test. -/
theorem find_finRange {n : Nat} (f : Fin n → Bool) (k : Fin n) (h : f k = true) (hb : ∀ j < k, f j = false) :
    (List.finRange n).find? f = some k := by
  rw [List.find?_eq_some_iff_getElem]
  refine ⟨h, k.val, by simp, by simp, ?_⟩
  intro j hj
  simp [hb ⟨j, by omega⟩ (by exact hj)]

/-! ## Breaking a channel's partnership (R22) -/

/-- The channel's own record loses its partner and nothing else. -/
theorem Part.breakChan_self {p : Part} {k : Chan} {n : Line} (h : p.chans[k].partner = some n) :
    (p.breakChan k).chans[k] = { p.chans[k] with partner := none } := by
  unfold Part.breakChan
  rw [h]
  simp [Part.setChanPartner, Part.setPartner, Part.setLine, Part.setChan]

/-- The DIGIT codes (Table 5-5). -/
theorem SignalCode.ofCode_digit (d : Dec) (x : Code) (h : x.val = 10 + d.val) : SignalCode.ofCode x = .digit d := by
  revert x
  revert d
  decide

end Sys2Proof.Machine
end

