-- ==== Sys2Proof/Laws/Store.lean ====
section
/-! SUPPORT. Word stores: reads after a write, and every operation keeps the canonical form. -/

namespace Sys2Proof.Machine

/-- Every listed address is above `b`. -/
def WordStore.above (b : Nat) (m : WordStore) : Prop := ∀ x ∈ m, b < x.1

theorem WordStore.wf_cons_iff (a : Nat) (w : Word) (m : WordStore) :
    WordStore.wf ((a, w) :: m) = true ↔ w ≠ WordStore.unlisted ∧ WordStore.above a m ∧ WordStore.wf m = true := by
  induction m generalizing a w with
  | nil => simp [WordStore.wf, WordStore.above]
  | cons x rest ih =>
    obtain ⟨b, v⟩ := x
    simp only [WordStore.wf, Bool.and_eq_true, bne_iff_ne, ne_eq, decide_eq_true_eq]
    constructor
    · rintro ⟨⟨h1, h2⟩, h3⟩
      refine ⟨h1, ?_, h3⟩
      have h4 := ((ih b v).mp h3).2.1
      intro y hy
      rcases List.mem_cons.mp hy with rfl | hy
      · exact h2
      · exact Nat.lt_trans h2 (h4 y hy)
    · rintro ⟨h1, h2, h3⟩
      exact ⟨⟨h1, h2 (b, v) (by simp)⟩, h3⟩

theorem WordStore.wf_nil : WordStore.wf [] = true := rfl

theorem WordStore.mem_erase {a : Nat} {m : WordStore} {x : Nat × Word} (h : x ∈ m.erase a) : x ∈ m := by
  induction m with
  | nil => simp [WordStore.erase] at h
  | cons y rest ih =>
    obtain ⟨b, v⟩ := y
    simp only [WordStore.erase] at h
    split at h
    · exact List.mem_cons_of_mem _ h
    · rcases List.mem_cons.mp h with rfl | h
      · simp
      · exact List.mem_cons_of_mem _ (ih h)

theorem WordStore.mem_insert {a : Nat} {w : Word} {m : WordStore} {x : Nat × Word} (h : x ∈ m.insert a w) :
    x = (a, w) ∨ x ∈ m := by
  induction m with
  | nil => simpa [WordStore.insert] using h
  | cons y rest ih =>
    obtain ⟨b, v⟩ := y
    simp only [WordStore.insert] at h
    split at h
    · simpa using h
    · split at h
      · rcases List.mem_cons.mp h with rfl | h
        · exact .inl rfl
        · exact .inr (List.mem_cons_of_mem _ h)
      · rcases List.mem_cons.mp h with rfl | h
        · exact .inr (by simp)
        · rcases ih h with h | h
          · exact .inl h
          · exact .inr (List.mem_cons_of_mem _ h)

theorem WordStore.wf_erase {m : WordStore} (a : Nat) (h : m.wf = true) : (m.erase a).wf = true := by
  induction m with
  | nil => exact h
  | cons y rest ih =>
    obtain ⟨b, v⟩ := y
    obtain ⟨h1, h2, h3⟩ := (WordStore.wf_cons_iff b v rest).mp h
    simp only [WordStore.erase]
    split
    · exact h3
    · exact (WordStore.wf_cons_iff b v _).mpr ⟨h1, fun x hx => h2 x (WordStore.mem_erase hx), ih h3⟩

theorem WordStore.wf_insert {m : WordStore} (a : Nat) {w : Word} (hw : w ≠ WordStore.unlisted) (h : m.wf = true) :
    (m.insert a w).wf = true := by
  induction m with
  | nil => exact (WordStore.wf_cons_iff a w []).mpr ⟨hw, by simp [WordStore.above], rfl⟩
  | cons y rest ih =>
    obtain ⟨b, v⟩ := y
    obtain ⟨h1, h2, h3⟩ := (WordStore.wf_cons_iff b v rest).mp h
    simp only [WordStore.insert]
    split
    · rename_i hab
      refine (WordStore.wf_cons_iff a w _).mpr ⟨hw, ?_, h⟩
      intro x hx
      rcases List.mem_cons.mp hx with rfl | hx
      · exact hab
      · exact Nat.lt_trans hab (h2 x hx)
    · split
      · rename_i hab
        subst hab
        exact (WordStore.wf_cons_iff a w _).mpr ⟨hw, h2, h3⟩
      · rename_i h4 h5
        refine (WordStore.wf_cons_iff b v _).mpr ⟨h1, ?_, ih h3⟩
        intro x hx
        rcases WordStore.mem_insert hx with rfl | hx
        · exact Nat.lt_of_le_of_ne (Nat.le_of_not_lt h4) (fun h6 => h5 h6.symm)
        · exact h2 x hx

/-- A write keeps the canonical form. -/
theorem WordStore.wf_write {m : WordStore} (a : Nat) (w : Word) (h : m.wf = true) : (m.write a w).wf = true := by
  unfold WordStore.write
  split
  · exact WordStore.wf_erase a h
  · rename_i hw
    exact WordStore.wf_insert a hw h

theorem WordStore.read_above {m : WordStore} {a b : Nat} (h : WordStore.above b m) (hab : a ≤ b) :
    m.read a = WordStore.unlisted := by
  induction m with
  | nil => rfl
  | cons y rest ih =>
    obtain ⟨c, v⟩ := y
    have hc : b < c := h (c, v) (by simp)
    simp only [WordStore.read]
    rw [if_neg (by omega)]
    exact ih fun x hx => h x (List.mem_cons_of_mem _ hx)

theorem WordStore.read_erase {m : WordStore} (a x : Nat) (h : m.wf = true) :
    (m.erase a).read x = if x = a then WordStore.unlisted else m.read x := by
  induction m with
  | nil => simp [WordStore.erase, WordStore.read]
  | cons y rest ih =>
    obtain ⟨b, v⟩ := y
    obtain ⟨-, h2, h3⟩ := (WordStore.wf_cons_iff b v rest).mp h
    simp only [WordStore.erase]
    split
    · rename_i hab
      subst hab
      by_cases hx : x = a
      · subst hx
        simp [WordStore.read_above h2 (Nat.le_refl _)]
      · simp [WordStore.read, hx]
    · rename_i hab
      simp only [WordStore.read]
      by_cases hx : x = b
      · subst hx
        simp [Ne.symm hab]
      · simp only [hx, if_false]
        exact ih h3

theorem WordStore.read_insert {m : WordStore} (a x : Nat) (w : Word) :
    (m.insert a w).read x = if x = a then w else m.read x := by
  induction m with
  | nil => simp [WordStore.insert, WordStore.read]
  | cons y rest ih =>
    obtain ⟨b, v⟩ := y
    simp only [WordStore.insert]
    split
    · simp [WordStore.read]
    · split
      · rename_i hab
        subst hab
        by_cases hx : x = a <;> simp [WordStore.read, hx]
      · rename_i h4 h5
        simp only [WordStore.read]
        by_cases hx : x = b
        · subst hx
          simp [Ne.symm h5]
        · simp only [hx, if_false]
          exact ih

/-- What a store in canonical form reads as after a write. -/
theorem WordStore.read_write {m : WordStore} (a x : Nat) (w : Word) (h : m.wf = true) :
    (m.write a w).read x = if x = a then w else m.read x := by
  unfold WordStore.write
  split
  · rename_i hw
    rw [WordStore.read_erase a x h, hw]
  · exact WordStore.read_insert a x w

end Sys2Proof.Machine
end

