-- ==== Sys2Proof/Tests/Slice0.lean ====
section
/-! SUPPORT. The model's own tests: ill-formed commands, single steps on small states, and, for each statement with
hypotheses, states and operands that meet them, clause by clause. -/

namespace Sys2Proof.Tests

open Sys2Proof.Machine

/-! ## Small states -/

/-- The machine after reset with other blocks. -/
def world (p : Part) : State := { State.reset with part := p }

/-- The blocks after reset, RUNNING. -/
def running : Part := { Part.reset with cmd := { CommandUnit.reset with mode := .running } }

/-- The blocks, RUNNING, with CLEAR-CALLS in progress and sets of one line and one channel. -/
def clearingCalls : Part := { running with cmd := { running.cmd with long := .clearCalls [47] [11] } }

/-- An in-service line record in a state. -/
def lineIn (st : LineState) (partner : Option Partner := none) (role : Option Role := none) : LineRecord :=
  { LineRecord.reset with
    profile := { Profile.reset with inService := true }, state := st, partner := partner, role := role }

/-- A channel record in a state. -/
def chanIn (st : ChanState) (partner : Option Line := none) : ChanRecord :=
  { ChanRecord.reset with config := ⟨true, true, 100⟩, state := st, partner := partner }

/-- A supervisor with an event handed. -/
def handing (e : LineEvent) : Supervisor := { Supervisor.reset with handed := [e] }

/-- A timer that has reached its limit. -/
def expired : Timer := ⟨true, 5, true⟩

/-- A wait queue entry. -/
def entryOf (c : CallClass) (mask : BitVec 16) (glare : Bool := false) : WaitEntry :=
  { callClass := c, mask := mask, preempt := false, outstanding := none, glare := glare, queueTimer := .started,
    unusableTimer := .started }

/-- A route over a mask. -/
def routeOf (kind : RouteKind) (c : CallClass) (mask : BitVec 16) : Route :=
  { entry := 0, kind := kind, entryClass := c, callClass := c, mask := mask, preempt := false, totalLength := 2, strip := 0,
    forwarded := [1, 2], target := none }

/-- A valid entry with prefix 9, total length 1. -/
def entryNine : DirEntry :=
  { valid := true, pfxLength := 1, totalLength := 1, strip := 0, kind := 2, callClass := 0,
    nibbles := #v[9, 0, 0, 0, 0, 0], preempt := false, mask := 0x2 }

/-- What a command leaves, tested. -/
def leaves (c : Instr) (s : State) (test : State → Bool) : Bool :=
  match exec c s with
  | .next t => test t
  | .fault _ => false
  | .refused _ => false

/-! ## Well-formed commands -/

theorem test_illFormed_pendingWordWrite : (Instr.pendingWordWrite 0x603 1).wellFormed = false := by decide

theorem test_illFormed_pendingWordWrite_outside :
    (Instr.pendingWordWrite 0x5FF 1).wellFormed = false ∧ (Instr.pendingWordWrite 0x900 1).wellFormed = false ∧
      (Instr.pendingWordWrite 0x6FF 1).wellFormed = false ∧ (Instr.pendingWordWrite 0x748 1).wellFormed = false := by
  decide

theorem test_illFormed_commandUndefined :
    (Instr.commandUndefined 0x0100).wellFormed = false ∧ (Instr.commandUndefined 0x0A00).wellFormed = false := by decide

theorem test_wellFormed_boundaries :
    (Instr.pendingWordWrite 0x600 1).wellFormed = true ∧ (Instr.pendingWordWrite 0x8FE 1).wellFormed = true ∧
      (Instr.commandUndefined 0x00FF).wellFormed = true ∧ (Instr.commandUndefined 0x0B00).wellFormed = true := by decide

/-! ## Single steps -/

theorem test_step_takesFront :
    step { State.reset with pending := [.masterWrite 0x2000 7] } = exec (.masterWrite 0x2000 7) State.reset := rfl

theorem test_masterWrite_stores :
    leaves (.masterWrite 0x2000 7) State.reset (fun t => t.mem == [(0x2000, 7)] && t.path.handovers == []) = true := by
  decide

theorem test_masterWrite_ofZero_unlists :
    leaves (.masterWrite 0x2000 0) { State.reset with mem := [(0x2000, 7)] } (fun t => t.mem == []) = true := by decide

theorem test_start_runs :
    leaves (.start 0) State.reset (fun t => t.part.cmd.mode == .running && t.part.cmd.sequence == 1 &&
      t.path.inService == some (.own 0x749 (some 0x0121) .commandUnit false)) = true := by decide

theorem test_start_refusedInRunning :
    leaves (.start 0) (world running) (fun t =>
      t.path.inService == some (.own 0x749 (some 0x0151) .commandUnit false)) = true := by decide

theorem test_linkUp_refusedUnderPolicyOff :
    leaves (.linkUp 0) (world running) (fun t => t.part.link.state == .off &&
      t.path.inService == some (.own 0x749 (some 0x0651) .commandUnit false)) = true := by decide

theorem test_commandZero_writesNoEcho :
    leaves (.commandUndefined 0x0055) State.reset (fun t => t.part.cmd.sequence == 0 && t.path.inService == none) = true := by
  decide

theorem test_codeInstall_then_duplicate :
    leaves (.signalCodeInstall 3 0x1234) (world { running with codes := running.codes.set 5 (some 0x1234) })
      (fun t => t.part.codes[3] == none && t.part.report.queue.map Record.kind == [.tableRefused]) = true := by decide

theorem test_senseWrite_accepts :
    leaves (.senseWrite 7 0x8000) (world (running.setSupervisor 7 { Supervisor.reset with
      candidate := some .closed, run := 39 }))
      (fun t => t.part.sup[7].loop == .closed && t.part.sup[7].handed == [.offHook]) = true := by decide

theorem test_offHook_originates :
    leaves (.offHook 7) (world ((running.setLine 7 (lineIn .idle)).setSupervisor 7 (handing .offHook)))
      (fun t => t.part.lines[7].state == .dialing && t.part.tone.positions[7].tone == some 0) = true := by decide

theorem test_digit_nine_seizes :
    leaves (.digit 7 9) (world
      { ((running.setLine 7 { lineIn .dialing with
            profile := { Profile.reset with inService := true, trunkAccess := true } }).setSupervisor 7
          (handing (.digit 9))).setChan 0 (chanIn .idle) with
        directory := running.directory.set 63 entryNine, link := { Link.reset with state := .up } })
      (fun t => t.part.lines[7].state == .trunkSetup && t.part.chans[0].state == .seizing &&
        t.part.chans[0].sendList == [9] && t.part.alloc.occupancy == [0]) = true := by decide

theorem test_listenRead_silence :
    leaves (.lineListenRead 47) { world running with mem := [(0x140, 0xFFF9)] }
      (fun t => t.path.returned == some (0x6F, 0xFFF9)) = true := by decide

theorem test_signalOutRead_blocked :
    leaves (.signalOutRead 11) { world running with mem := [(0x159, 5)] }
      (fun t => t.path.returned == some (0x13B, 5)) = true := by decide

theorem test_level_codes :
    LevelCode.boost.scale 20000 = 32767 ∧ (LevelCode.cut6.scale (-12001)).toInt = -6001 ∧
      (LevelCode.cut12.scale (-7)).toInt = -2 := by decide

theorem test_pendingWord_kept :
    leaves (.pendingWordWrite 0x8FE 9) State.reset (fun t => t.part.copies == [(0x8FE, 9)] && t.mem == [(0x8FE, 9)]) =
      true := by decide

theorem test_directoryCommit_installs :
    leaves (.directoryCommit 63 0x0002) (world { running with copies := [(0x8FC, 0x9098), (0x8FD, 0x9000)] })
      (fun t => t.part.directory[63].valid && t.part.directory[63].pfx == [9] && t.part.report.queue == []) = true := by
  decide

theorem test_frameStrobe_countsFrames :
    leaves (.frameStrobe false false false) (world { running with clock := ⟨7, 0xFFFF⟩ })
      (fun t => t.part.clock == ⟨0, 0⟩) = true := by decide +kernel

theorem test_headerState_arms :
    leaves (.headerStateWrite .b 1) State.reset (fun t => t.part.report.bufferB == .disarmed) = false := by decide

theorem test_headerState_arm_takesBuffer :
    leaves (.headerStateWrite .b 1) State.reset (fun t => t.part.report.bufferB == .filling &&
      t.path.inService == some (.own 0xE00 (some 2) .reportWriter false)) = true := by decide

/-- R116: an RRDY sample of OFF is no ready event of the STARTING that follows. -/
theorem test_rrdySample_ofOff_isNoReady :
    LinkState.sample .off true = none ∧ (running.enterLink .starting (some .localSide) .command).link.rrdySample = none := by
  decide

theorem test_masterWrite_onBusyPort_waits :
    leaves (.masterWrite 0x3000 7) { State.reset with path := { State.reset.path with
        inService := some (.write 0x2000 1) } }
      (fun t => t.path.presented == some (.write 0x3000 7) && t.path.wait && t.mem == []) = true := by decide

theorem test_senseWrite_behindAnother_isHandedOver :
    leaves (.senseWrite 7 0x8000) { world running with path := { State.reset.path with handovers := [⟨0x080, 0⟩] } }
      (fun t => t.path.handovers == [⟨0x080, 0⟩, ⟨0x087, 0x8000⟩] && t.mem == [(0x087, 0x8000)]) = true := by decide

theorem test_accessPresentedInReset_showsNoWait :
    leaves (.forwardedAccessPresented (.read 5))
      { State.reset with path := { State.reset.path with resetAsserted := true, inService := some (.write 0x2000 1) } }
      (fun t => t.path.presented == some (.read 5) && !t.path.wait) = true := by decide

/-- R146, R151: a commit between the strobe that ends a step and the row that takes the end keeps the frames loaded. -/
theorem test_toneStepEnd_keepsTheStrobesDuration :
    leaves (.toneStepEnd 47) (world { running with tone := { ToneUnit.reset with
        descriptors := ToneUnit.reset.descriptors.set 7 #v[⟨0, 0, 9⟩, ⟨0, 0, 9⟩, ⟨0, 0, 9⟩, ⟨0, 0, 9⟩]
        positions := ToneUnit.reset.positions.set 47 ⟨some 7, 3, .count 0, 5, some (0, .count 40)⟩ } })
      (fun t => t.part.tone.positions[47] == ⟨some 7, 0, .count 40, 0, none⟩) = true := by decide

theorem test_armBeforeFullCompletion_keepsAttn :
    leaves (.headerStateWrite .b 1) { world { running with report := { Report.reset with
        bufferA := .filling, bufferB := .full, job := .closing .count 0 3 } } with
      path := { State.reset.path with reportDone := true } }
      (fun t => t.part.attention && t.part.report.bufferB == .armed) = true := by decide

theorem test_ageExpiryAtCompletion_closesAtOnce :
    let r : Record := ⟨.lineState, .none, 0, 0, 0, .notSnapshot⟩
    leaves .reportWordWriteComplete { world { running with report := { Report.reset with
        bufferA := .filling, job := .headWord 3, recordCount := 1, queue := [r, r], age := expired } } with
          path := { State.reset.path with reportDone := true } }
      (fun t => t.part.report.job == .awaitExpiry &&
        leaves .ageTimerExpiry t (fun u => u.part.report.job == .closing .age 0 0)) = true := by decide

/-- R51, R54: a PRIORITY line's call by a NORMAL entry keeps the entry's class beside the effective class. -/
theorem test_route_keepsTheEntrysClass :
    (({ running with directory := running.directory.set 63 entryNine }.setLine 7 { lineIn .dialing with
        profile := { Profile.reset with inService := true, trunkAccess := true, lineClass := .priority } }).lookup 7 [9]).1.map
          (fun r : Route => (r.entryClass, r.callClass)) = some (CallClass.normal, CallClass.priority) := by decide

/-- R40, R35: LINE-RESET of an ALERTING line gives up its alert and tears its caller down with BUSY. -/
theorem test_lineReset_ofAlerting :
    leaves (.lineReset 7) (world (((running.setLine 7 (lineIn .alerting (some (.line 8)) (some .called))).setLine 8
        (lineIn .localCalling (some (.line 7)) (some .caller))).setSupervisor 8 { Supervisor.reset with loop := .closed }))
      (fun t => t.part.lines[7].state == .idle && t.part.lines[8].state == .cleardown &&
        t.part.lines[8].cause == some .busy && t.part.lines[8].partner == none) = true := by decide

/-! ## Witnesses: every block state can be put behind a live machine with an idle port -/

/-- The machine with any blocks is live, its port is idle, and it takes the write of any word. -/
theorem test_witness_world (p : Part) (off : Nat) (w : Word) :
    (world p).live ∧ (world p).path.idle = true ∧ (world p).takesWrite off w ∧ (world p).part = p :=
  ⟨rfl, rfl, ⟨rfl, rfl⟩, rfl⟩

/-- A write that stands as a hand-over is taken too. -/
theorem test_witness_handover (p : Part) (off : Nat) (w : Word) :
    ({ world p with path := { State.reset.path with handovers := [⟨off, w⟩] } } : State).takesWrite off w := by
  refine ⟨rfl, ?_⟩
  simp [Path.oldestHandover]

/-- Any record can stand at the first and the last line and channel. -/
theorem test_witness_records (l : LineRecord) (c : ChanRecord) (v : Supervisor) (e : Option WaitEntry) :
    (running.setLine 0 l).lines[(0 : Line)] = l ∧ (running.setLine 47 l).lines[(47 : Line)] = l ∧
      (running.setChan 0 c).chans[(0 : Chan)] = c ∧ (running.setChan 11 c).chans[(11 : Chan)] = c ∧
      (running.setSupervisor 0 v).sup[(0 : Line)] = v ∧ (running.setSupervisor 47 v).sup[(47 : Line)] = v ∧
      (running.setWaiter 0 e).alloc.waiters[(0 : Line)] = e ∧ (running.setWaiter 47 e).alloc.waiters[(47 : Line)] = e := by
  simp [Part.setLine, Part.setChan, Part.setSupervisor, Part.setWaiter]

/-! ## Witnesses, statement by statement -/

/-- The machine while RESETN is asserted. -/
def held : State := { State.reset with path := State.reset.path.asserted, part := Part.reset }

theorem held_inReset : held.inReset := ⟨rfl, rfl, rfl, rfl, rfl, rfl, rfl, rfl, fun _ => rfl, nofun⟩

theorem test_witness_EveryStepCompletes : State.reset.pending = [] := rfl

/-- RESETN asserted over a busy port. -/
def heldBusy : State := { held with path := { held.path with inService := some (.write 0x2000 1) } }

theorem test_witness_AssertedResetHoldsTheBlocks :
    held.inReset ∧ held.path.inService = none ∧ held.path.presented = none ∧
      (∀ area, Instr.ready ≠ .resetRelease area) ∧
      (heldBusy.inReset ∧ heldBusy.path.presented = none ∧ heldBusy.path.inService ≠ none) :=
  ⟨held_inReset, rfl, rfl, nofun, ⟨rfl, rfl, rfl, rfl, rfl, rfl, rfl, rfl, fun _ => rfl, nofun⟩, rfl, nofun⟩

theorem test_witness_AssertedResetHoldsTheBlocks_heldAccess :
    held.path.idle = true ∧ Memory.wf held.mem = true ∧
      ∀ access ∈ [MasterAccess.read 0x040, .write 0x080 1],
        ({ heldBusy with path := { heldBusy.path with presented := some access } } : State).path.presented = some access ∧
          leaves .portAccessComplete { heldBusy with path := { heldBusy.path with presented := some access, waitKept := true } }
            (fun t => t.path.inService.isSome && t.path.handovers == [] && !t.path.wait) = true := by decide

theorem test_witness_ReleaseSamplesStrapsAndReportsRestart : held.inReset := held_inReset

theorem test_witness_ReportClockCountsMilliseconds :
    State.reset.live ∧ held.inReset ∧ (∀ a b c, Instr.ready ≠ .frameStrobe a b c) ∧ Instr.ready ≠ .resetAssertion ∧
      (∀ area, Instr.ready ≠ .resetRelease area) ∧ exec .ready State.reset = .next State.reset ∧
      State.reset.part.groupEnabled .lineState = true ∧ State.reset.part.report.queue.length < 8 :=
  ⟨rfl, held_inReset, nofun, nofun, nofun, rfl, rfl, by decide⟩

/-- A part with a waiter, slot holders and tone positions, and no event due. -/
def busyPart : Part :=
  { running.setWaiter 47 (some (entryOf .normal 2)) with
    ring := { Ring.reset with slots := (Ring.reset.slots.set 47 (some ⟨0, 0, none⟩)).set 46 (some ⟨3, 15999, none⟩) }
    tone := { ToneUnit.reset with positions := ((ToneUnit.reset.positions.set 1 ⟨some 0, 0, .held, 0, none⟩).set 2
      ⟨some 7, 3, .count 1, 0, none⟩).set 3 ⟨some 7, 0, .count 2, 63, none⟩ } }

theorem busyPart_ready : (world busyPart).readyForStrobe := ⟨rfl, by decide +kernel⟩

theorem test_witness_StrobeCountsEveryTimer :
    (world busyPart).readyForStrobe ∧ Timer.started.running = true ∧ Timer.stopped.running = false ∧
      busyPart.alloc.waiters[(0 : Line)] = none ∧ busyPart.alloc.waiters[(47 : Line)] = some (entryOf .normal 2) :=
  ⟨busyPart_ready, rfl, rfl, by decide, by decide⟩

theorem test_witness_StrobeSamplesAndAdvancesPositions :
    (world busyPart).readyForStrobe ∧ busyPart.ring.slots[(0 : Line)] = none ∧
      (busyPart.ring.slots[(47 : Line)] = some ⟨0, 0, none⟩ ∧
        (0 : Fin 4).val < cadenceLength busyPart.tone.cadence ∧ 0 + 1 < 8 * busyPart.tone.cadence[(0 : Fin 4)].duration) ∧
      (busyPart.ring.slots[(46 : Line)] = some ⟨3, 15999, none⟩ ∧
        8 * busyPart.tone.cadence[(3 : Fin 4)].duration ≤ 15999 + 1) ∧
      busyPart.tone.positions[(0 : Line)].tone = none ∧
      (busyPart.tone.positions[(1 : Line)].tone = some 0 ∧ busyPart.tone.positions[(1 : Line)].left = .held) ∧
      (busyPart.tone.positions[(2 : Line)].tone = some 7 ∧ busyPart.tone.positions[(2 : Line)].left = .count 1) ∧
      (busyPart.tone.positions[(3 : Line)].tone = some 7 ∧ busyPart.tone.positions[(3 : Line)].left = .count (0 + 2)) :=
  ⟨busyPart_ready, by decide, by decide, by decide, by decide, by decide, by decide, by decide⟩

theorem test_witness_StrobeSamplesAndAdvancesPositions_samples :
    State.reset.live ∧ StrobeEvent.ready ∈ strobeEvents ∧
      (∀ st ∈ [LinkState.off, .starting, .up, .holdoff], ∀ policy ∈ [LinkPolicy.off, .onDemand, .alwaysOn],
        let p : Part := { busyPart with
          link := { Link.reset with state := st }, gen := { GenConfig.reset with policy := policy } }
        (∀ e ∈ strobeEvents, e.due p = false) ∧ p.link.state = st ∧ p.gen.policy = policy ∧ p.link.lastWake = false) := by
  refine ⟨rfl, by decide +kernel, by decide +kernel⟩

/-- R138: a cadence whose list ends after step 0 and whose later steps hold durations. -/
def shortCadence : Vector CadenceStep 4 := #v[⟨true, 400⟩, ⟨false, 0⟩, ⟨true, 500⟩, ⟨false, 2000⟩]

theorem test_witness_StrobeSamplesAndAdvancesPositions_shortCadence :
    (world { busyPart with tone := { busyPart.tone with cadence := shortCadence } }).readyForStrobe ∧
      cadenceLength shortCadence ≤ (3 : Fin 4).val ∧ (0 : Fin 4).val < cadenceLength shortCadence ∧
      CadencePosition.tick ⟨3, 0, none⟩ shortCadence = ⟨3, 1, some 0⟩ ∧
      CadencePosition.tick ⟨0, 0, none⟩ shortCadence = ⟨0, 1, none⟩ :=
  ⟨⟨rfl, by decide +kernel⟩, by decide, by decide, by decide, by decide⟩

/-- A path with an access presented, own requests and a run counter. -/
def pathOf (presented : Option MasterAccess) (own : List OwnRequest) (run : Nat) : Path :=
  { State.reset.path with presented := presented, ownQueue := own, runCounter := run }

/-- An own request. -/
def echoRequest : OwnRequest := ⟨.commandUnit, 0x749, some 1⟩

theorem test_witness_ArbiterChoosesByTheRunCounter :
    held.inReset ∧ { State.reset.path with inService := some (.write 0 0) }.inService ≠ none ∧
      ((pathOf none [] 0).presented = none ∧ (pathOf none [] 0).ownQueue = []) ∧
      (∀ run ∈ [0, 15], (pathOf (some (.read 5)) [echoRequest] run).runCounter < 16 ∧
        (pathOf (some (.read 5)) [echoRequest] run).inService = none) ∧
      (pathOf (some (.read 5)) [echoRequest] 16).runCounter = 16 ∧
      (pathOf (some (.read 5)) [] 16).ownQueue = [] ∧ (pathOf none [echoRequest] 3).ownQueue = [echoRequest] :=
  ⟨held_inReset, by decide, by decide, by decide, rfl, rfl, rfl⟩

theorem test_witness_ForwardedAccessesAreServed :
    ((State.reset.path.presented = none ∧ { State.reset.path with inService := some (.write 0 0) }.inService ≠ none)) ∧
      (State.reset.path.resetAsserted = false ∧ State.reset.path.idle = true) ∧ Memory.wf State.reset.mem = true ∧
      (offsetOf 0 0x1000 = none ∧ offsetOf 0 0xFFFF = none ∧ offsetOf 3 0xBFFF = none) ∧
      (offsetOf 0 0 = some 0 ∧ offsetOf 3 0xCFFF = some 0xFFF) ∧
      (snoopWindow 0 = none ∧ snoopWindow 0xFFF = none ∧ snoopWindow 0x749 = none) ∧
      (snoopWindow 0x080 = some .sense ∧ snoopWindow 0xE00 = some .headerB) := by decide +kernel

/-- The machine with a write in service. -/
def portBusy (p : Part) : State := { world p with path := { State.reset.path with inService := some (.write 0x2000 1) } }

theorem test_witness_ForwardedAccessesAreServed_inReset :
    held.path.resetAsserted = true ∧ held.path.idle = true ∧ wordRead (.lineListenRead 47) = some 0x06F := ⟨rfl, rfl, rfl⟩

/-- The machine with a hand-over of the sense window standing. -/
def handedOver : State := { world running with path := { State.reset.path with handovers := [⟨0x080, 0⟩] } }

theorem test_witness_ForwardedAccessesAreServed_busyPort :
    (portBusy running).path.idle = false ∧
      (wordRead (.lineListenRead 0) = some 0x040 ∧ wordRead (.lineDriveRead 47) = some 0x0EF ∧
        wordRead (.channelListenRead 0) = some 0x110 ∧ wordRead (.signalOutRead 11) = some 0x13B) ∧
      (windowWrite (.senseWrite 7 0x8000) = some (0x087, 0x8000) ∧
        windowWrite (.headerStateWrite .b 1) = some (0xE00, 1) ∧ windowWrite (.start 0) = some (0x748, 0x0100)) ∧
      (∀ off w, ¬ (portBusy running).takesWrite off w) ∧
      (handedOver.path.idle = true ∧ ¬ handedOver.takesWrite 0x087 0x8000) := by
  refine ⟨rfl, by decide, by decide, ?_, rfl, ?_⟩
  · rintro off w ⟨-, h⟩
    cases h
  · rintro ⟨-, h⟩
    exact absurd (show (⟨0x080, 0⟩ : Handover) = ⟨0x087, 0x8000⟩ from h) (by decide)

theorem test_witness_PortCompletionServesTheAccess :
    Memory.wf State.reset.mem = true ∧ ∀ a ∈ ([.write 0xFFFF 1, .read 0 0x140 .cut12,
      .own 0xC00 (some 2) .reportWriter false, .own 0x749 (some 1) .commandUnit false, .own 0x150 none .tableLoader false,
      .own 0x749 (some 1) .commandUnit true, .own 0x150 none .tableLoader true] : List Service),
      ({ State.reset with path := { State.reset.path with inService := some a } } : State).path.inService = some a := by
  decide

/-- Lines that hear each kind of word, and the tones of the descriptors T0 (silence) and T7 (words). -/
def toned (t : ToneIx) : Part :=
  { running with tone := { ToneUnit.reset with
      descriptors := ToneUnit.reset.descriptors.set 7 #v[⟨1023, 1, 0⟩, ⟨0, 0, 0⟩, ⟨0, 0, 0⟩, ⟨0, 0, 0⟩]
      positions := ToneUnit.reset.positions.set 47 ⟨some t, 0, .held, 63, none⟩ } }

theorem test_witness_LineListenReadByState :
    (∀ st ∈ [LineState.outOfService, .idle, .alerting], ((toned 0).setLine 47 (lineIn st)).lines[(47 : Line)].state = st) ∧
      (∀ st ∈ [LineState.trunkSetup, .talk], ∀ x ∈ [Partner.line 0, .line 46, .chan 0, .chan 11],
        ((toned 0).setLine 47 (lineIn st (some x))).lines[(47 : Line)].partner = some x) ∧
      (∀ cause ∈ [Cause.busy, .congestion, .unobtainable, .preempted], ((toned 0).setLine 47
        { lineIn .cleardown with cause := some cause }).lines[(47 : Line)].cause = some cause) ∧
      (∀ st ∈ [LineState.dialing, .queued, .localCalling, .lockout],
        ((toned 0).setLine 47 (lineIn st)).lines[(47 : Line)].state = st) ∧
      (∀ st ∈ [LineState.dialing, .lockout], ((toned 0).setLine 47 { lineIn st with
        firstDigitSeen := true, howlerDone := true }).lines[(47 : Line)].firstDigitSeen = true) ∧
      (∀ t ∈ List.finRange 8, (toned t).tone.positions[(47 : Line)].tone = some t) ∧
      ((toned 0).tone.descriptors[(0 : ToneIx)][(0 : Fin 4)].length = 0 ∧
        (toned 7).tone.descriptors[(7 : ToneIx)][(0 : Fin 4)].length ≠ 0) := by decide

/-- A position whose last step a strobe has ended. -/
def stepping : TonePosition := ⟨some 7, 3, .count 0, 63, some (0, .held)⟩

theorem test_witness_LineListenReadByState_stepEnded :
    ({ ToneUnit.reset with positions := ToneUnit.reset.positions.set 47 stepping } : ToneUnit).positions[(47 : Line)] =
        stepping ∧ stepping.tone = some 7 ∧ stepping.moved = ⟨some 7, 0, .held, 0, none⟩ ∧
      (⟨3, 16000, some 0⟩ : CadencePosition).moved = ⟨0, 0, none⟩ := by decide

/-- A line in ALERTING with a slot in a cadence step. -/
def ringing (step : Fin 4) : Part :=
  { running.setLine 47 (lineIn .alerting) with
    ring := { Ring.reset with slots := Ring.reset.slots.set 47 (some ⟨step, 0, none⟩) } }

theorem test_witness_DriveAndChannelReadsByState :
    ((ringing 0).tone.cadence[(0 : Fin 4)].on = true ∧ (ringing 3).tone.cadence[(3 : Fin 4)].on = false ∧
        (ringing 3).ring.slots[(47 : Line)] = some ⟨3, 0, none⟩ ∧ (ringing 3).lines[(47 : Line)].state = .alerting ∧
        running.ring.slots[(47 : Line)] = none) ∧
      (∀ st ∈ [LineState.outOfService, .idle, .dialing, .queued, .trunkSetup, .localCalling, .cleardown, .talk, .lockout],
        (running.setLine 0 (lineIn st)).lines[(0 : Line)].state = st) ∧
      (∀ st ∈ [ChanState.seizing, .sending, .awaitAnswer, .talk],
        (running.setChan 11 (chanIn st (some 47))).chans[(11 : Chan)].partner = some 47) ∧
      (∀ st ∈ [ChanState.offline, .idle, .incoming, .ringingIn, .rejecting, .clearing, .releasing, .fault, .blockedFar],
        (running.setChan 0 (chanIn st)).chans[(0 : Chan)].state = st) ∧
      (∀ code ∈ [RejectCode.busy, .vacant], (running.setChan 0 { chanIn .rejecting with
        reject := some code }).chans[(0 : Chan)].reject = some code) ∧
      (∀ phase ∈ [SendPhase.digit, .gap], (running.setChan 0 { chanIn .sending with
        sendPhase := phase, sendList := [9], sendPosition := 0 }).chans[(0 : Chan)].sendPhase = phase) ∧
      0 < ({ chanIn .sending with sendList := [9] } : ChanRecord).sendList.length := by decide

theorem test_witness_ListenReadsAreScaledByLevelCode :
    (∀ off ∈ [0, 0x03F], off < 0x040) ∧ (∀ off ∈ [0x070, 0xFFF], 0x040 + 48 ≤ off) ∧ State.reset.live ∧
      State.reset.path.idle = true := ⟨by decide, by decide, rfl, rfl⟩

/-- A supervisor part way through a run to a closed loop. -/
def closing (run : Nat) (phase : Phase) : Supervisor :=
  { Supervisor.reset with candidate := some .closed, run := run, phase := phase }

/-- A supervisor part way through a run to an open loop. -/
def opening (run : Nat) (phase : Phase) : Supervisor :=
  { Supervisor.reset with loop := .closed, candidate := some .opened, run := run, phase := phase }

theorem test_witness_SenseWriteTakesLoopThenDigit :
    (Loop.opened = Supervisor.reset.loop ∧ (0x4000 : Word).getLsbD 15 = false) ∧
      (Loop.closed ≠ (closing 38 .resting).loop ∧ (0x8000 : Word).getLsbD 15 = true ∧
        (closing 38 .resting).candidate = some .closed ∧ (closing 38 .resting).run + 1 < running.gen.debounceCount) ∧
      (Supervisor.reset.candidate = none ∧ 1 < running.gen.debounceCount) ∧
      running.gen.debounceCount ≤ (closing 39 .resting).run + 1 ∧
      (∀ phase ∈ [Phase.making, .steady], ∀ pulses ∈ [0, 1, 9, 10, 11], ({ closing 0 phase with
        pulses := pulses } : Supervisor).pulses = pulses ∧ (closing 0 phase).lastPresent = false) ∧
      (∀ d ∈ [(0 : Digit), 11], d.val < 12) := by decide

theorem test_witness_ClosureFromRestingAndOpeningOfMake :
    ((closing 39 .resting).loop = .opened ∧ (closing 39 .resting).phase = .resting ∧
        running.gen.debounceCount ≤ (closing 39 .resting).run + 1 ∧ (0x8000 : Word).getLsbD 15 = true) ∧
      ∀ phase ∈ [Phase.making, .steady], (opening 39 phase).loop = .closed ∧ (opening 39 phase).phase = phase ∧
        running.gen.debounceCount ≤ (opening 39 phase).run + 1 ∧ (0 : Word).getLsbD 15 = false := by decide

theorem test_witness_ClosureEndsTheBreak :
    ((closing 39 .breaking).loop = .opened ∧ (closing 39 .breaking).phase = .breaking ∧
        running.gen.debounceCount ≤ (closing 39 .breaking).run + 1) ∧
      (({ closing 39 .breaking with timer := ⟨true, 960, false⟩ } : Supervisor).timer.count ≤ 8 * running.gen.breakMax ∧
        8 * running.gen.breakMax < ({ closing 39 .breaking with timer := ⟨true, 961, false⟩ } : Supervisor).timer.count) ∧
      ∀ st ∈ [LineState.dialing, .idle, .outOfService, .lockout],
        (running.setLine 47 (lineIn st)).lines[(47 : Line)].state = st := by decide

theorem test_witness_SupervisorTimersHandOnHookAndDigits :
    ∀ phase ∈ [Phase.breaking, .making], ∀ pulses ∈ [0, 1, 9, 10, 11], ∀ st ∈ [LineState.dialing, .cleardown],
      let p := (running.setLine 47 (lineIn st)).setSupervisor 47
        { Supervisor.reset with phase := phase, timer := expired, pulses := pulses }
      p.sup[(47 : Line)].timer.due = true ∧ p.sup[(47 : Line)].phase = phase ∧ p.sup[(47 : Line)].pulses = pulses ∧
        p.lines[(47 : Line)].state = st := by decide

theorem test_witness_EnteringALineState :
    (running.groupEnabled .lineState = true ∧ running.report.queue.length < 8) ∧
      (selectedTone (lineIn .idle) = none ∧ (toned 7).tone.positions[(47 : Line)].tone ≠ none) ∧
      (selectedTone (lineIn .queued) = some 7 ∧ (toned 7).tone.positions[(47 : Line)].tone = some 7 ∧
        (toned 0).tone.positions[(47 : Line)].tone ≠ some 7) := by decide

/-- A line with a supervisor that has handed it an event. -/
def told (p : Part) (e : LineEvent) (l : LineRecord) : Part := (p.setLine 47 l).setSupervisor 47 (handing e)

theorem told_handed (p : Part) (e : LineEvent) (l : LineRecord) :
    (told p e l).sup[(47 : Line)].handed.head? = some e ∧ (told p e l).lines[(47 : Line)] = l ∧
      (told p e l).cmd = p.cmd := by
  simp [told, Part.setLine, Part.setSupervisor, handing]

/-- A line whose profile names D63 as its hotline. -/
def hotlined (st : LineState) (delay : Nat) : LineRecord :=
  { lineIn st with profile := { Profile.reset with inService := true, hotline := some 63, hotlineDelay := delay } }

theorem test_witness_OffHookOriginates :
    ((told running .offHook (lineIn .idle)).cmd.mode = .running ∧
        ((told running .offHook (lineIn .idle)).eventTaken 47).clearing = false) ∧
      ((told clearingCalls .offHook (lineIn .idle)).eventTaken 47).clearing = true ∧
      (lineIn .idle).profile.hotline = none ∧
      ((hotlined .idle 0).profile.hotline = some 63 ∧ (hotlined .idle 0).profile.hotlineDelay = 0) ∧
      (hotlined .idle 10).profile.hotlineDelay ≠ 0 ∧ (told Part.reset .offHook (lineIn .idle)).cmd.mode = .halted ∧
      (lineIn .talk).state ≠ .idle ∧ (lineIn .talk).state ≠ .alerting := by decide

theorem test_witness_OffHookAnswers :
    ((told running .offHook (lineIn .alerting (some (.line 0)) (some .called))).lines[(47 : Line)].partner =
        some (.line 0) ∧ (0 : Line) ≠ 47) ∧
      ((told (running.setChan 11 (chanIn .ringingIn (some 47))) .offHook
          (lineIn .alerting (some (.chan 11)) (some .called))).chans[(11 : Chan)].state = .ringingIn ∧
        (told running .offHook (lineIn .alerting (some (.chan 11)) (some .called))).lines[(47 : Line)].role =
          some .called) := by decide

theorem test_witness_OnHookAbandonsTheCall :
    (∀ st ∈ [LineState.outOfService, .idle, .alerting, .dialing, .cleardown, .lockout, .queued],
        (told running .onHook (lineIn st)).lines[(47 : Line)].state = st ∧
          (told running .onHook (lineIn st)).cmd.mode = .running) ∧
      (∀ st ∈ [LineState.trunkSetup, .talk], ∀ k ∈ [(0 : Chan), 11],
        (told running .onHook (lineIn st (some (.chan k)))).lines[(47 : Line)].partner = some (.chan k)) ∧
      (∀ st ∈ [LineState.localCalling, .talk], ∀ m ∈ [(0 : Line), 46],
        (told running .onHook (lineIn st (some (.line m)))).lines[(47 : Line)].partner = some (.line m)) ∧
      (told Part.reset .onHook (lineIn .idle)).cmd.mode = .halted := by decide

theorem test_witness_OnHookAbandonsTheCall_rows :
    (∀ st ∈ [LineState.idle, .dialing, .cleardown, .lockout, .outOfService, .queued],
        (running.setLine 47 (lineIn st)).lines[(47 : Line)].state = st) ∧
      ∀ st ∈ [LineState.alerting, .talk, .trunkSetup, .localCalling], ∀ x ∈ [Partner.line 0, .chan 11],
        (running.setLine 47 (lineIn st (some x))).lines[(47 : Line)].state = st ∧
          (running.setLine 47 (lineIn st (some x))).lines[(47 : Line)].partner = some x := by decide

/-- The directory with a trunk entry 9 at D63. -/
def directed (p : Part) : Part := { p with directory := p.directory.set 63 entryNine }

/-- A line with trunk access. -/
def reaching (st : LineState) : LineRecord :=
  { lineIn st with profile := { Profile.reset with inService := true, trunkAccess := true } }

theorem test_witness_DigitIsAppendedAndJudged :
    ((told running (.digit 11) (lineIn .dialing)).sup[(47 : Line)].handed.head? = some (.digit 11) ∧
        (told running (.digit 11) (lineIn .dialing)).cmd.mode = .running) ∧
      (running.lookup 47 [9]).2 = .refuse .unobtainable ∧
      ((directed (running.setLine 47 (reaching .dialing))).lookup 47 [9]).2 = .routeTrunk ∧
      ((directed (running.setLine 47 { lineIn .dialing with
        route := some (routeOf .trunk .normal 2) })).lookup 47 [9]).2 = .needMore ∧
      ((running.setLine 0 (lineIn .idle)).setLine 47 { lineIn .dialing with
        route := some (routeOf .station .normal 2) } |>.lookup 47 [0, 0]).2 = .routeStationLocal 0 ∧
      (told Part.reset (.digit 0) (lineIn .idle)).cmd.mode = .halted := by decide

theorem test_witness_LocalCallRingsAnIdleTarget :
    clearingCalls.clearing = true ∧ running.clearing = false ∧ (0 : Line) ≠ 47 ∧
      (running.setLine 0 (lineIn .idle)).lines[(0 : Line)].state = .idle ∧
      (running.setLine 0 (lineIn .talk)).lines[(0 : Line)].state ≠ .idle := by decide

theorem test_witness_DialledLookupVerdict :
    ((running.setLine 47 { lineIn .dialing with
        route := some (routeOf .trunk .normal 2) }).lines[(47 : Line)].route = some (routeOf .trunk .normal 2) ∧
        ([9] : List Digit).length < (routeOf .trunk .normal 2).totalLength ∧
        ([9, 9] : List Digit).length = (routeOf .trunk .normal 2).totalLength) ∧
      (running.lines[(47 : Line)].route = none ∧ ∀ d : EntryIx, running.directory[d].agrees [9] = false) ∧
      (entryNine.agrees [9] = true ∧ (directed running).resolution [9] = some 63 ∧
        ([9] : List Digit).length = (entryNine.route 63).totalLength) ∧
      ([9, 0] : List Digit).length > (entryNine.route 63).totalLength ∧
      ({ entryNine with totalLength := 16 }.agrees [9] = true ∧
        [9].length < ({ entryNine with totalLength := 16 }.route 63).totalLength) ∧
      ({ running with directory := running.directory.set 63 { entryNine with
        pfxLength := 2, totalLength := 2 } }.resolution [9] = none) := by decide

theorem test_witness_DialledLookupVerdict_resolution :
    ((directed running).entriesDistinct ∧ (directed running).entriesInDigits) ∧
      (directed running).directory[(63 : EntryIx)].fullyMatched [9] = true ∧
      ∀ e : EntryIx, (directed running).directory[e].agrees [9] = true →
        (pfxDigits (directed running).directory[e]).length ≤ (pfxDigits (directed running).directory[(63 : EntryIx)]).length :=
  ⟨⟨by unfold Part.entriesDistinct; decide +kernel, by unfold Part.entriesInDigits; decide +kernel⟩, by decide +kernel,
    by decide +kernel⟩

/-- A part with one line in service, station 0. -/
def served : Part := running.setLine 47 (lineIn .idle)

theorem test_witness_stationLine_found :
    served.stationsDistinct ∧ served.lines[(47 : Line)].profile.inService = true := by
  unfold Part.stationsDistinct
  decide +kernel

theorem test_witness_CompletionVerdict :
    (running.localSwitching = true ∧ running.lines[(47 : Line)].profile.trunkAccess = false ∧
        CallClass.normal.max .normal ≠ .emergency) ∧
      (decimals (([0, 0] : List Digit).drop 0) = some [0, 0] ∧ decimals ([0, 10] : List Digit) = none ∧
        decimals ([9, 9] : List Digit) = some [9, 9]) ∧
      ((running.setLine 0 (lineIn .idle)).stationLine 0 = some 0 ∧ running.stationLine 99 = none) ∧
      ({ running with link := { Link.reset with state := .up } }.localSwitching = false) ∧
      ((running.setLine 47 (reaching .dialing)).lines[(47 : Line)].profile.trunkAccess = true) ∧
      CallClass.emergency.max .normal = .emergency ∧
      ((∃ d ∈ ([0, 11] : List Digit), 10 ≤ d.val) ∧
        ([0, 9] : List Digit).map Fin.val = ([0, 9] : List Dec).map Fin.val) := by decide

/-- A line in DIALING whose state timer has reached a limit. -/
def dialled (limit : LineLimit) (l : LineRecord) : Part :=
  running.setLine 47 { l with state := .dialing, timer := expired, limit := limit }

theorem test_witness_DialingEndsOrTheHotlineIsRouted :
    ((told running .misdial (lineIn .dialing)).cmd.mode = .running ∧
        (told running .misdial (lineIn .idle)).lines[(47 : Line)].state ≠ .dialing ∧
        (told Part.reset .misdial (lineIn .idle)).cmd.mode = .halted) ∧
      (∀ limit ∈ [LineLimit.firstDigit, .interDigit, .hotlineDelay 10],
        (dialled limit (lineIn .idle)).lines[(47 : Line)].timer.due = true ∧
          (dialled limit (lineIn .idle)).lines[(47 : Line)].limit = limit ∧
          (dialled limit (lineIn .idle)).lines[(47 : Line)].profile.hotline = none) ∧
      (dialled (.hotlineDelay 1) (hotlined .idle 1)).lines[(47 : Line)].profile.hotline = some 63 ∧
      (running.directory[(63 : EntryIx)].valid = false ∧ (running.hotlineLookup 47 63).2 = .refuse .unobtainable) ∧
      (({ entryNine with totalLength := 2 } : DirEntry).pfxLength.toNat <
        ({ entryNine with totalLength := 2 } : DirEntry).totalLength.toNat) ∧
      ((directed running).directory[(63 : EntryIx)].valid = true ∧
        (directed running).directory[(63 : EntryIx)].totalLength.toNat ≤
          (directed running).directory[(63 : EntryIx)].pfxLength.toNat) ∧
      ((directed (running.setLine 47 { reaching .dialing with digits := [9] })).hotlineLookup 47 63).2 = .routeTrunk := by
  decide

theorem test_witness_CleardownLeadsToLockoutAndSilence :
    ∀ st ∈ [LineState.cleardown, .lockout],
      (running.setLine 47 { lineIn st with timer := expired }).lines[(47 : Line)].state = st ∧
        (running.setLine 47 { lineIn st with timer := expired }).lines[(47 : Line)].timer.due = true := by decide

/-- A part just after START, with lines whose own event stands. -/
def started (l : LineRecord) (loop : Loop) : Part :=
  let p := (running.setLine 47 l).setSupervisor 47 { Supervisor.reset with loop := loop }
  { p with cmd := { p.cmd with starting := [0, 47] } }

theorem test_witness_StartAndClearCallsTakeTheirLines :
    (∀ l ∈ [lineIn .idle, hotlined .idle 0, hotlined .idle 10, lineIn .outOfService], ∀ loop ∈ [Loop.opened, .closed],
      47 ∈ (started l loop).cmd.starting ∧ (started l loop).cmd.mode = .running ∧
        (started l loop).sup[(47 : Line)].loop = loop ∧ (started l loop).lines[(47 : Line)] = l ∧
        (started l loop).clearing = false) ∧
      clearingCalls.cmd.long = .clearCalls [47] [11] ∧
      (∀ st ∈ [LineState.idle, .cleardown, .lockout, .outOfService, .dialing, .queued, .trunkSetup, .localCalling,
        .alerting, .talk], (clearingCalls.setLine 47 (lineIn st)).lines[(47 : Line)].state = st) := by decide

theorem test_witness_StartUnderClearCalls :
    let p : Part := { started (lineIn .idle) .closed with
      cmd := { (started (lineIn .idle) .closed).cmd with long := .clearCalls [] [11] } }
    47 ∈ p.cmd.starting ∧ p.cmd.mode = .running ∧ p.lines[(47 : Line)].state = .idle ∧ p.sup[(47 : Line)].loop = .closed ∧
      p.clearing = true := by decide

theorem test_witness_TeardownByStateAndLoop :
    (running.setLine 47 (lineIn .talk (some (.line 0)))).lines[(47 : Line)].partner = some (.line 0) ∧
      (running.setLine 47 (lineIn .talk (some (.chan 11)))).lines[(47 : Line)].partner = some (.chan 11) ∧
      (running.setChan 11 (chanIn .talk (some 47))).chans[(11 : Chan)].partner = some 47 ∧
      (running.setLine 47 (lineIn .dialing)).lines[(47 : Line)].partner = none ∧
      ∀ st ∈ [LineState.alerting, .queued, .dialing, .trunkSetup, .localCalling, .talk, .idle, .cleardown, .lockout,
        .outOfService], (running.setLine 47 (lineIn st)).lines[(47 : Line)].state = st := by decide

/-- A QUEUED line with a route over C01 and C12. -/
def queued (c : CallClass) : Part :=
  running.setLine 47 { lineIn .queued with route := some (routeOf .trunk c 0x1002) }

theorem test_witness_EnqueueMakesAnEntryOrIsRefused :
    (queued .normal).lines[(47 : Line)].route = some (routeOf .trunk .normal 0x1002) ∧
      ({ queued .normal with cmd := clearingCalls.cmd } : Part).clearing = true ∧
      (({ queued .normal with supply := ⟨true, 0⟩ } : Part).supply.warning = true ∧
        (queued .normal).link.state ≠ .up ∧ (queued .normal).clearing = false) ∧
      (queued .emergency).supply.warning = false ∧
      (maskHas 0x1002 0 = true ∧ maskHas 0x1002 11 = true ∧ (∀ k : Chan, 0 < k.val → k.val < 11 →
        maskHas 0x1002 k = false)) ∧
      (∀ k ∈ [(0 : Chan), 11], ((queued .normal).setChan k (chanIn .idle)).chans[k].state = .idle) ∧
      (∀ j : Chan, j < 11 → ((queued .normal).setChan 11 (chanIn .idle)).chans[j].state ≠ .idle) ∧
      (∀ k : Chan, (queued .normal).chans[k].state ≠ .idle) := by
  refine ⟨?_, ?_, ?_, ?_, ?_, ?_, ?_, ?_⟩ <;> decide

theorem test_witness_GrantSeizesTheChannel :
    let p := ((queued .normal).setWaiter 47 (some (entryOf .normal 0x1002))).setChan 11 (chanIn .idle)
    p.alloc.waiters[(47 : Line)] = some (entryOf .normal 0x1002) ∧ p.chans[(11 : Chan)].state = .idle ∧
      p.groupEnabled .lineState = true ∧ p.groupEnabled .chanState = true ∧ p.report.queue.length < 7 ∧
      CallClass.priority ≠ (entryOf .normal 0x1002).callClass := by decide

/-- The waiters of rows 2 to 4 of Table 4-3, with C05's pointer. -/
def waiting (last : Option Line) (glare : Bool) : Part :=
  let p := (running.setWaiter 2 (some (entryOf .normal 0x20))).setWaiter 30 (some (entryOf .normal 0x20 glare))
  { p with alloc := { p.alloc with pointers := p.alloc.pointers.set 4 ⟨last, none, none⟩ } }

theorem test_witness_WaiterIsChosenByClassGlareAndRotation :
    running.chosen 4 = none ∧ (waiting (some 40) false).chosen 4 = some 2 ∧ (waiting (some 2) false).chosen 4 = some 30 ∧
      (waiting none false).chosen 4 = some 2 ∧ (waiting (some 47) true).chosen 4 = some 30 ∧
      ((waiting (some 40) false).setWaiter 9 (some (entryOf .priority 0x20))).chosen 4 = some 9 := by decide +kernel

/-- Two NORMAL calls on C01 and C12, the younger last, and an EMERGENCY waiter. -/
def preempted (accepted : Option Code) : Part :=
  let call : ChanRecord := { chanIn .talk (some 0) with
    callClass := some .normal, direction := some .out, accepted := accepted }
  let p := ((running.setChan 0 call).setChan 11 call).setWaiter 47 (some (entryOf .emergency 0x1002))
  { p with alloc := { p.alloc with occupancy := [0, 11] } }

theorem test_witness_PreemptionTakesTheYoungestNormalCall :
    running.victim (entryOf .emergency 0x1002) = none ∧
      (preempted none).victim (entryOf .emergency 0x1002) = some 11 ∧
      (preempted none).victim (entryOf .emergency 0x2) = some 0 ∧ (preempted none).alloc.occupancy = [0] ++ 11 :: [] ∧
      (preempted none).alloc.waiters[(47 : Line)] = some (entryOf .emergency 0x1002) ∧
      (∀ x ∈ [none, some SignalCode.clear.toCode, some SignalCode.answer.toCode],
        (preempted x).chans[(11 : Chan)].accepted ≠ some SignalCode.idle.toCode) ∧
      (preempted (some SignalCode.idle.toCode)).chans[(11 : Chan)].accepted = some SignalCode.idle.toCode ∧
      (clearingCalls.clearing = true ∧ running.chosen 0 = none ∧ running.clearing = false ∧
        (preempted none).chosen 0 = some 47) := by decide +kernel

theorem test_witness_PreemptionTakesTheYoungestNormalCall_leave :
    let p := (preempted none).setWaiter 47 (some { entryOf .emergency 0x1002 with outstanding := some 11 })
    (p.alloc.waiters[(47 : Line)] = some { entryOf .emergency 0x1002 with outstanding := some 11 } ∧
        (p.setChan 11 (chanIn .idle)).chans[(11 : Chan)].state = .idle ∧ p.chans[(0 : Chan)].state ≠ .idle) ∧
      ∀ n : Line, running.alloc.waiters[n] = none := by decide +kernel

/-- R78, R101, R79: a victim whose far code is IDLE goes on to IDLE in the event and is granted to the waiter. -/
theorem test_preempt_ofIdleFarCode_grants :
    ((preempted (some SignalCode.idle.toCode)).setLine 47 (lineIn .queued) |>.preempt 47).chans[(11 : Chan)].state =
      .seizing := by decide +kernel

theorem test_witness_EntryTimersEndTheWait :
    let e := { entryOf .normal 2 with queueTimer := expired, unusableTimer := expired }
    (running.setWaiter 47 (some e)).alloc.waiters[(47 : Line)] = some e ∧ e.queueTimer.due = true ∧
      e.unusableTimer.due = true ∧ running.alloc.waiters[(0 : Line)] = none := by decide

theorem test_witness_EnteringAndClearingAChannel :
    (running.groupEnabled .chanState = true ∧ running.report.queue.length < 8) ∧
      (let up : Part := { running with
          link := { Link.reset with state := .up, origin := some .localSide, silence := .started }
          gen := { GenConfig.reset with policy := .onDemand } };
        up.silenceHolds = true ∧ running.silenceHolds = false) ∧
      (∀ st ∈ [ChanState.seizing, .sending, .awaitAnswer, .incoming, .ringingIn, .talk, .idle, .clearing],
        (running.setChan 11 { chanIn st with accepted := some 6 }).chans[(11 : Chan)].state = st) ∧
      ((running.setChan 11 { chanIn .talk with accepted := some 0 }).chans[(11 : Chan)].accepted =
          some SignalCode.idle.toCode ∧
        (running.setChan 11 { chanIn .talk with accepted := some 6 }).chans[(11 : Chan)].accepted =
          some SignalCode.clear.toCode ∧ (chanIn .talk).accepted ≠ some SignalCode.idle.toCode) ∧
      (({ chanIn .talk with draining := true } : ChanRecord).destination .idle = .offline ∧
        (chanIn .talk).destination .fault = .fault) := by decide

/-- Two codes installed: K00 and K19. -/
def coded (p : Part) : Part := { p with codes := (p.codes.set 0 (some 0x11)).set 19 (some 0x22) }

theorem coded_distinct : (world (coded running)).part.codesDistinct := by
  have h : ∀ x y : Code, (coded running).codes[x] = (coded running).codes[y] →
      (coded running).codes[x] = none ∨ x = y := by decide +kernel
  intro x y w hx hy
  have hx : (coded running).codes[x] = some w := hx
  have hy : (coded running).codes[y] = some w := hy
  rcases h x y (hx.trans hy.symm) with hn | he
  · rw [hx] at hn
    cases hn
  · exact he

theorem test_witness_SignalInRunsToAcceptance :
    (world (coded running)).part.codesDistinct ∧
      ((coded running).codes[(19 : Code)] = some 0x22 ∧ (coded running).codes[(0 : Code)] = some 0x11) ∧
      (∀ x : Code, (coded running).codes[x] ≠ some 0x33) ∧
      (∀ st ∈ [ChanState.offline, .idle], ((coded running).setChan 11 (chanIn st)).chans[(11 : Chan)].state = st) ∧
      (1 < (coded running).gen.persistence ∧ (coded running).gen.persistence ≤ min 16 (2 + 1) ∧
        ({ chanIn .idle with candidate := some 19, run := 2 } : ChanRecord).accepted ≠ some 19) :=
  ⟨coded_distinct, by decide +kernel⟩

/-- A channel in a state, with the digits it has received. -/
def receiving (st : ChanState) (received : List Dec) : ChanRecord := { chanIn st with received := received }

theorem test_witness_AcceptedCodesThatSetUpCalls :
    (∀ st ∈ [ChanState.idle, .incoming, .awaitAnswer, .ringingIn, .rejecting, .talk, .clearing, .releasing, .blockedFar],
        (running.setChan 11 (chanIn st)).chans[(11 : Chan)].state ≠ .fault ∧
          (running.setChan 11 (chanIn st)).chans[(11 : Chan)].state ≠ .offline) ∧
      (∀ st ∈ [ChanState.seizing, .sending, .awaitAnswer],
        (running.setChan 11 (chanIn st (some 47))).chans[(11 : Chan)].partner = some 47) ∧
      (running.setLine 47 (lineIn .trunkSetup)).lines[(47 : Line)].state = .trunkSetup ∧
      (clearingCalls.clearing = true ∧ running.clearing = false) ∧
      ((receiving .incoming []).received.length ≠ 2 ∧ (receiving .incoming [0, 0, 1, 2]).received.length ≠ 2) ∧
      (running.stationLine (10 * 9 + 9) = none ∧ (running.setLine 0 (lineIn .idle)).stationLine (10 * 0 + 0) = some 0 ∧
        (running.setLine 0 (lineIn .talk)).stationLine (10 * 0 + 0) = some 0) ∧
      ((19 : Code).val = 10 + (9 : Dec).val ∧ (10 : Code).val = 10 + (0 : Dec).val) := by decide

theorem test_witness_AcceptedCodesThatRelease :
    (∀ st ∈ [ChanState.idle, .seizing, .sending, .awaitAnswer, .incoming, .ringingIn, .rejecting, .talk, .clearing,
        .releasing, .fault, .blockedFar], (running.setChan 0 (chanIn st)).chans[(0 : Chan)].state = st) ∧
      (∀ n : Line, running.alloc.waiters[n] = none) ∧ (1 : Code) ≠ 0 ∧ (19 : Code) ≠ 0 := by decide

theorem test_witness_ChannelTimersExpire :
    (∀ st ∈ [ChanState.sending, .incoming, .rejecting, .clearing, .releasing, .fault],
        (running.setChan 11 { chanIn st with timer := expired }).chans[(11 : Chan)].timer.due = true) ∧
      ((chanIn .seizing (some 47)).partner = some 47) ∧
      (({ chanIn .sending with sendList := [1, 2], sendPosition := 0, sendPhase := .gap } : ChanRecord).sendPosition + 1 <
        [1, 2].length) ∧ [1, 2].length ≤ 1 + 1 ∧ ([] : List Dec).length ≤ 0 + 1 := by decide

theorem test_witness_StallAndLinkChangesOfAChannel :
    (∀ st ∈ [ChanState.fault, .idle], ({ chanIn st with stall := expired } : ChanRecord).stall.due = true ∧
        (chanIn st).state ≠ .offline ∧ (chanIn st).partner = none) ∧
      (chanIn .talk (some 47)).partner = some 47 ∧
      (∀ change ∈ [LinkChange.up, .down], ∀ st ∈ [ChanState.offline, .seizing, .talk, .idle],
        (running.setChan 11 { chanIn st (some 47) with linkChanges := [change] }).chans[(11 : Chan)].linkChanges =
          change :: []) ∧ ChanRecord.reset.config.enabled = false := by decide

theorem test_witness_CodeInstallRefusesADuplicate :
    ((19 : Code) ≠ 0 ∧ (coded running).codes[(19 : Code)] = some 0x22) ∧
      (∀ y : Code, y ≠ 19 → (coded running).codes[y] ≠ some 0x22) := by decide

theorem test_witness_PendingWordsTonesAndCadence :
    (∀ off ∈ [(0x600 : Nat), 0x6BE, 0x6C0, 0x6D6, 0x6E0, 0x6FE, 0x700, 0x73E, 0x740, 0x746, 0x800, 0x8FE],
        isPendingOffset off = true) ∧ Memory.wf running.copies = true ∧
      (let edge := ToneStep.ofWords 5 ((1023 : Word) <<< 6);
        edge.start ≤ 1023 ∧ edge.length ≤ 64 ∧ edge.start + edge.length ≤ 1024) ∧
      (let past := ToneStep.ofWords 5 (((1023 : Word) <<< 6) + 1);
        ¬ past.start + past.length ≤ 1024) ∧
      ((10000 : Word).toNat ≤ 10000 ∧ ¬ (10001 : Word).toNat ≤ 10000 ∧ (0 : Word).toNat = 0 ∧ ¬ (2 : Word).toNat ≤ 1) := by
  decide

theorem test_witness_DirectoryCommitChecksInOrder :
    (let e := entryNine;
      1 ≤ e.pfxLength.toNat ∧ (∀ x ∈ e.pfx, x ≤ 11) ∧ e.pfxLength.toNat ≤ e.totalLength.toNat ∧ e.totalLength.toNat ≤ 16 ∧
        e.kind ≠ 3 ∧ e.callClass ≠ 3 ∧ e.preempt = false ∧ e.kind ≠ 1 ∧ e.mask ≠ 0 ∧
        ∀ i : Fin 16, e.mask.getLsbD i.val = true → 1 ≤ i.val ∧ i.val ≤ 12) ∧
      ¬ (1 ≤ ({ entryNine with pfxLength := 0 } : DirEntry).pfxLength.toNat) ∧
      ¬ (({ entryNine with totalLength := 17 } : DirEntry).totalLength.toNat ≤ 16) ∧
      (({ entryNine with preempt := true } : DirEntry).preempt = true ∧ entryNine.callClass ≠ 2) ∧
      (({ entryNine with kind := 1 } : DirEntry).kind = 1 ∧ entryNine.totalLength.toNat ≠ entryNine.pfxLength.toNat + 2) ∧
      (({ entryNine with mask := 0 } : DirEntry).kind ≠ 0 ∧ ({ entryNine with mask := 0 } : DirEntry).mask = 0) ∧
      ((directed running).directory[(63 : EntryIx)].valid = true ∧
        (directed running).directory[(63 : EntryIx)].pfx = entryNine.pfx) ∧
      (DirEntry.ofWords 0 0 0 0).valid = false ∧ (DirEntry.ofWords 0x9098 0x9000 0 2).valid = true := by decide

theorem test_witness_ProfileCommitActsOnTheLine :
    (((99 : Word).extractLsb' 0 7).toNat ≤ 99 ∧ ¬ ((100 : Word).extractLsb' 0 7).toNat ≤ 99 ∧
        ((10 : Word).extractLsb' 0 4).toNat ≤ 10 ∧ ¬ ((11 : Word).extractLsb' 0 4).toNat ≤ 10) ∧
      ((running.setLine 0 (lineIn .idle)).lines[(0 : Line)].profile.inService = true ∧
        (running.setLine 0 (lineIn .idle)).lines[(0 : Line)].profile.station = 0 ∧
        ((0x8000 : Word).getLsbD 15 = true ∧ (0 : Word).getLsbD 15 = false)) ∧
      (running.lines[(47 : Line)].profile.inService = false ∧ running.cmd.mode = .running ∧
        Part.reset.cmd.mode = .halted ∧ running.sup[(47 : Line)].loop = .opened ∧
        (running.setSupervisor 47 { Supervisor.reset with loop := .closed }).sup[(47 : Line)].loop = .closed) := by decide

theorem test_witness_ChannelConfigCommitActsOnTheChannel :
    (((9 : Word).toNat < 10 ∧ 1000 < (1001 : Word).toNat) ∧ (10 ≤ (10 : Word).toNat ∧ (1000 : Word).toNat ≤ 1000)) ∧
      ((0x8000 : Word).getLsbD 15 = true ∧ (0x4000 : Word).getLsbD 14 = true ∧ (0 : Word).getLsbD 15 = false) ∧
      (∀ st ∈ [ChanState.offline, .idle, .fault, .blockedFar, .talk],
        (running.setChan 11 (chanIn st)).chans[(11 : Chan)].config.enabled = true ∧
          (running.setChan 11 { chanIn st with config := ⟨false, false, 10⟩ }).chans[(11 : Chan)].config.enabled = false) ∧
      ({ running with link := { Link.reset with state := .up } } : Part).link.state = .up ∧
      running.link.state ≠ .up ∧ Part.reset.cmd.mode = .halted := by decide

/-- The pending copies of the default general configuration. -/
def defaultCopies : WordStore :=
  [(0x6E0, 40), (0x6E1, 120), (0x6E2, 400), (0x6E3, 250), (0x6E4, 10), (0x6E5, 6), (0x6E6, 30), (0x6E7, 20), (0x6E8, 90),
    (0x6E9, 60), (0x6EA, 15), (0x6EB, 3), (0x6EC, 2000), (0x6ED, 60), (0x6EE, 60), (0x6EF, 3), (0x6F0, 5), (0x6F1, 1000)] ++
  [(0x6F2, 8), (0x6F3, 30), (0x6F4, 120), (0x6F5, 0x38FF), (0x6F6, 1000)]

theorem test_generalCommit_default_installs :
    leaves (.generalConfigCommit 0x0034) (world { running with copies := defaultCopies })
      (fun t => t.part.gen == GenConfig.reset && t.part.report.queue == []) = true := by decide +kernel

theorem test_generalCommit_order :
    leaves (.generalConfigCommit 0x0034) (world { running with copies := defaultCopies.write 0x6E2 200 |>.write 0x6E1 200 })
      (fun t => t.part.gen == GenConfig.reset &&
        t.part.report.queue.map (fun r => (r.detailA, r.detailB)) == [(0x02FF, 1)]) = true := by decide +kernel

theorem test_witness_GeneralConfigCommitActsOnPolicyAndBudget :
    (let word (i : Nat) : Word := defaultCopies.read (0x6E0 + i);
      (GenConfig.ofFields word 0x0034 .off .isolated).inRange = true ∧
        (GenConfig.ofFields word 0x0004 .off .isolated).inRange = false ∧
        ((0x0034 : Word).extractLsb' 0 2).toNat = 0 ∧ ((0x0034 : Word).extractLsb' 2 2).toNat = 1 ∧
        ¬ ((0x0003 : Word).extractLsb' 0 2).toNat ≤ 2) ∧
      (∀ policy ∈ [LinkPolicy.off, .onDemand, .alwaysOn], ∀ st ∈ [LinkState.off, .starting, .up, .holdoff],
        let p : Part := { running with
          gen := { GenConfig.reset with policy := policy }, link := { Link.reset with state := st } }
        p.gen.policy = policy ∧ p.link.state = st ∧ p.cmd.mode = .running) ∧ Part.reset.cmd.mode = .halted := by
  decide +kernel

theorem test_witness_CommandsAreJudgedInOrder :
    (clearingCalls.cmd.long ≠ .none ∧ Command.start ≠ .halt) ∧
      (running.cmd.long = .none ∧ running.cmd.mode ≠ .halted ∧ Part.reset.cmd.mode ≠ .running ∧
        running.gen.policy = .off) ∧
      (¬ (48 : BitVec 8).toNat ≤ 47 ∧ (47 : BitVec 8).toNat ≤ 47 ∧ ¬ 1 ≤ (0 : BitVec 8).toNat ∧
        ¬ (13 : BitVec 8).toNat ≤ 12) ∧
      ((0x00FF : Word).extractLsb' 8 8 = 0 ∧ 10 < ((0x0B00 : Word).extractLsb' 8 8).toNat ∧
        10 < ((0xFF00 : Word).extractLsb' 8 8).toNat) := by decide

theorem test_witness_ShortCommandsAct :
    (running.cmd.long = .none ∧ running.cmd.mode = .running ∧ Part.reset.cmd.mode = .halted) ∧
      (∀ st ∈ [LinkState.off, .starting, .up, .holdoff], ({ running with
        gen := { GenConfig.reset with policy := .onDemand }, link := { Link.reset with state := st } } : Part).link.state =
          st) ∧
      ((0 : BitVec 8).toNat = (0 : Line).val ∧ (47 : BitVec 8).toNat = (47 : Line).val) ∧
      ((1 : BitVec 8).toNat = (0 : Chan).val + 1 ∧ (12 : BitVec 8).toNat = (11 : Chan).val + 1) ∧
      (let p : Part := { running.setChan 11 (chanIn .idle) with link := { Link.reset with state := .up } };
        p.link.state = .up ∧ p.chans[(11 : Chan)].config.enabled = true ∧ p.chans[(11 : Chan)].state = .idle ∧
          p.chans[(0 : Chan)].state = .offline) := by decide

theorem test_witness_HaltStopsEverything :
    (running.cmd.mode = .running ∧ clearingCalls.cmd.long ≠ .none) ∧
      (running.lines[(0 : Line)].state = .outOfService ∧
        (running.setLine 47 (lineIn .talk)).lines[(47 : Line)].state ≠ .idle) ∧
      (∀ long ∈ [LongCommand.none, .clearCalls [] [], .rescan 0x8FF, .snapshot 0, .snapshot 60],
        ({ running with cmd := { running.cmd with long := long } } : Part).cmd.long = long) := by decide

theorem test_witness_LongCommandsBegin :
    (running.cmd.long = .none ∧ running.cmd.mode = .running ∧ running.cmd.rescanOutstanding = none ∧
        running.cmd.awaitingAborted = 0) ∧
      (((List.finRange 48).filter fun n : Line => running.lines[n].state.hasCall) = [] ∧
        ∀ k : Chan, running.chans[k].state.quiet = true) ∧
      (running.setChan 11 (chanIn .incoming)).chans[(11 : Chan)].state.quiet = false ∧
      clearingCalls.cmd.long = .clearCalls [47] [11] := by decide

/-- A RESCAN with the read of an offset outstanding and completed. -/
def rescanning (off : Nat) (stale : Bool) : State :=
  { world { running with cmd := { running.cmd with
      long := .rescan off, rescanOutstanding := some off, rescanStale := stale } } with
    path := { State.reset.path with rescanDone := some 7 } }

/-- A SNAPSHOT with a disposal to take. -/
def snapping (i left : Nat) (tag : SnapshotTag) : Part :=
  { running with cmd := { running.cmd with
      long := .snapshot i, awaitingAborted := left, disposals := [(tag, .written)] } }

theorem test_witness_LongCommandsGoOn (held : Option Word) (off i left : Nat) (stale : Bool) (tag : SnapshotTag) :
    ({ world { running with cmd := { running.cmd with echoOutstanding := true, echoHeld := held } } with
        path := { State.reset.path with echoDone := true } } : State).path.echoDone = true ∧
      ((rescanning off stale).live ∧ (rescanning off stale).path.rescanDone = some 7 ∧
        (rescanning off stale).part.cmd.rescanOutstanding = some off ∧
        (rescanning off stale).part.cmd.rescanStale = stale ∧ (rescanning off stale).part.cmd.long = .rescan off) ∧
      ((snapping i left tag).cmd.disposals = (tag, .written) :: [] ∧ (snapping i left tag).cmd.long = .snapshot i ∧
        (snapping i left tag).cmd.awaitingAborted = left) := ⟨rfl, ⟨rfl, rfl, rfl, rfl, rfl⟩, rfl, rfl, rfl⟩

theorem test_witness_LongCommandsGoOn_offsets :
    (0x150 : Nat) = 0x150 + (0 : Code).val ∧ (0x163 : Nat) = 0x150 + (19 : Code).val ∧
      (0x6BF : Nat) = 0x603 + 4 * (47 : Line).val ∧ (0x6D7 : Nat) = 0x6C1 + 2 * (11 : Chan).val ∧
      (0x73F : Nat) = 0x707 + 8 * (7 : ToneIx).val ∧ (0x8FF : Nat) = 0x803 + 4 * (63 : EntryIx).val := by decide

theorem test_witness_LinkFollowsItsEvents :
    ∀ st ∈ [LinkState.starting, .up, .holdoff, .off], ∀ policy ∈ [LinkPolicy.onDemand, .alwaysOn, .off],
      ∀ flag ∈ [true, false],
        let p : Part := { running with
          gen := { GenConfig.reset with policy := policy }
          link := { Link.reset with
            state := st, timer := expired, silence := expired, wakeEdge := true, rememberedWake := flag
            demandFlag := flag, rrdySample := some flag } }
        p.link.state = st ∧ p.link.timer.due = true ∧ p.link.silence.due = true ∧ p.gen.policy = policy ∧
          p.link.rrdySample = some flag ∧ p.demandOutstanding = false ∧ p.groupEnabled .linkState = true := by
  decide +kernel

theorem test_witness_SupplyAlertsAndPositions :
    (∀ warning ∈ [true, false], 800 ≤ ({ running with supply := ⟨warning, 800⟩ } : Part).supply.hold) ∧
      (running.gen.inRange = true ∧ running.gen.breakMax < running.gen.onHookMin) ∧
      (running.link.state ≠ .up ∧
        (running.setWaiter 47 (some (entryOf .normal 2))).alloc.waiters[(47 : Line)] = some (entryOf .normal 2)) ∧
      (∀ x ∈ [Partner.line 0, .chan 11], let p : Part := { running.setLine 47 (lineIn .alerting (some x)) with
          ring := { Ring.reset with alert := Ring.reset.alert.set 47 expired } }
        p.ring.alert[(47 : Line)].due = true ∧ p.lines[(47 : Line)].partner = some x) ∧
      ({ Ring.reset with slots := Ring.reset.slots.set 47 (some ⟨3, 16000, some 0⟩) } : Ring).slots[(47 : Line)] =
        some ⟨3, 16000, some 0⟩ ∧
      ({ ToneUnit.reset with positions := ToneUnit.reset.positions.set 47 ⟨some 7, 3, .count 0, 5, some (0, .held)⟩ } :
          ToneUnit).positions[(47 : Line)] = ⟨some 7, 3, .count 0, 5, some (0, .held)⟩ ∧
      (47 ∉ running.ring.queue ∧ slotsHeld running.ring.slots < running.effectiveBudget) ∧
      (({ running with ring := { Ring.reset with queue := [47] }, supply := ⟨true, 0⟩ } : Part).ring.queue = 47 :: [] ∧
        ({ ringing 0 with supply := ⟨true, 0⟩ } : Part).effectiveBudget ≤ slotsHeld (ringing 0).ring.slots) := by
  decide +kernel

/-- A report record that no snapshot hands. -/
def recordOf (kind : RecordKind) (tag : SnapshotTag) : Record := ⟨kind, .none, 0, 0, 0, tag⟩

/-- A report writer that fills A. -/
def filling (job : WriterJob) (count : Nat) (queue : List Record) (gap : Option Record) : Part :=
  { running with report := { Report.reset with
      bufferA := .filling, job := job, recordCount := count, queue := queue, gap := gap } }

theorem test_witness_ReportQueueAndBuffers :
    (∀ b ∈ [BufferState.disarmed, .armed, .filling, .full], ∀ x ∈ [BufferId.a, .b],
        (Report.reset.setBuffer x b).buffer x = b) ∧
      (running.groupEnabled .restart = true ∧
        ({ running with gen := { GenConfig.reset with enableMask := 0 } } : Part).groupEnabled .lineState = false) ∧
      ((List.replicate 7 (recordOf .supply .notSnapshot)).length < 8 ∧
        8 ≤ (List.replicate 8 (recordOf .supply .notSnapshot)).length) ∧
      (∀ last ∈ [none, some BufferId.a, some .b], let r : Report := { Report.reset with
          queue := [recordOf .supply .notSnapshot], bufferA := .armed, bufferB := .armed, lastClosed := last, lost := 65535 }
        r.queue ≠ [] ∧ r.bufferA ≠ .filling ∧ r.bufferA = .armed ∧ r.bufferB = .armed ∧ r.lastClosed = last) ∧
      ((filling .none 119 [] none).report.filling = some .a ∧
        (filling .none 0 [recordOf .supply .notSnapshot] (some (recordOf .gap .notSnapshot))).report.gap =
          some (recordOf .gap .notSnapshot) ∧ running.report.filling = none) := by decide +kernel

/-- The writing of FULL in A while B stands FULL, completed or not. -/
def fullWritten (clock : Word) (done : Bool) : State :=
  { world { running with report := { Report.reset with
      bufferA := .filling, bufferB := .full, job := .closing .count clock 3 } } with
    path := { State.reset.path with reportDone := done } }

theorem test_witness_ReportQueueAndBuffers_armedBeforeFull (clock : Word) (done : Bool) :
    (fullWritten clock done).part.report.buffer .b = .full ∧ (fullWritten clock done).path.reportDone = done ∧
      (fullWritten clock done).part.report.job = .closing .count clock 3 ∧
      (fullWritten clock done).takesWrite (headerOffset .b) 1 := ⟨rfl, rfl, rfl, rfl, rfl⟩

theorem test_witness_ReportWriterWritesAndCloses :
    (∀ job ∈ [WriterJob.takeBuffer, .gapWord 0, .gapWord 3, .headWord 0, .headWord 3, .closing .count 7 0,
        .closing .age 7 1, .closing .urgent 7 2, .closing .flush 7 3], ∀ count ∈ [0, 119],
        let p := filling job count [recordOf .snapshotLine .subject] (some (recordOf .gap .notSnapshot))
        p.report.filling = some .a ∧ p.report.job = job ∧ p.report.recordCount = count ∧
          p.report.queue = recordOf .snapshotLine .subject :: [] ∧ p.report.gap = some (recordOf .gap .notSnapshot)) ∧
      ({ world running with path := { State.reset.path with reportDone := true } } : State).path.reportDone = true ∧
      ({ Report.reset with age := expired } : Report).age.due = true ∧ running.report.filling = none ∧
      (let p := filling (.headWord 3) 1 [recordOf .supply .notSnapshot, recordOf .supply .notSnapshot] none
        let r : Report := { p.report with age := expired }
        r.closePending = none ∧ r.recordCount + 1 ≠ 120 ∧ running.gen.urgentMask.getLsbD RecordKind.supply.group = true ∧
          running.gen.urgentMask.getLsbD RecordKind.lineState.group = false ∧ r.age.due = true ∧ r.queue.tail ≠ []) ∧
      (filling .awaitExpiry 2 [] none).report.job = .awaitExpiry := by decide +kernel

theorem test_witness_invariants_canonical :
    Memory.wf State.reset.mem = true ∧ Memory.wf State.reset.part.copies = true := by decide

theorem test_witness_invariants_bounded :
    State.reset.bounded ∧ ∃ t, step State.reset = .next t := ⟨by unfold State.bounded; decide, _, rfl⟩

theorem test_witness_invariants_haltedAtRest :
    State.reset.part.cmd.mode = .halted ∧ (∀ n : Line, State.reset.part.lines[n].state = .outOfService) ∧
      (∀ k : Chan, State.reset.part.chans[k].state = .offline) ∧ State.reset.part.link.state = .off := by decide

theorem test_witness_invariants_tablesConsistent :
    State.reset.part.entriesInDigits ∧ (∀ x : Code, State.reset.part.codes[x] = none) ∧ (∀ d : EntryIx, State.reset.part.directory[d].valid = false) ∧
      (∀ n : Line, State.reset.part.lines[n].profile.inService = false) ∧ State.reset.part.gen.inRange = true := by
  unfold Part.entriesInDigits
  decide +kernel

end Sys2Proof.Tests
end

section
/-! The line supervisor (01_line_supervision.md): what each of its functions gives in each case, and then the statements
about its three rows. -/

namespace Sys2Proof.Machine

/-! ## Pulse digits (Table 1-6) -/

theorem pulseEvents_digit {count : Nat} {x : Digit} (hx : count = x.val) (hlow : 1 ≤ count) (hhigh : count ≤ 9) :
    pulseEvents count = [.digit x] := by
  subst hx
  unfold pulseEvents
  rw [if_neg (by omega), if_pos (by omega)]
  simp

theorem pulseEvents_ten : pulseEvents 10 = [.digit 0] := rfl

theorem pulseEvents_misdial {count : Nat} (h : 11 ≤ count) : pulseEvents count = [.misdial] := by
  unfold pulseEvents
  rw [if_neg (by omega), if_neg (by omega), if_neg (by omega)]

theorem Supervisor.complete_dialing (v : Supervisor) :
    v.complete .dialing = { v with pulses := 0, handed := v.handed ++ pulseEvents v.pulses } := rfl

theorem Supervisor.complete_notDialing (v : Supervisor) {st : LineState} (h : st ≠ .dialing) :
    v.complete st = { v with pulses := 0 } := by
  simp [Supervisor.complete, Supervisor.give, h]

theorem Supervisor.complete_noPulses {v : Supervisor} (st : LineState) (h : v.pulses = 0) :
    v.complete st = { v with pulses := 0 } := by
  simp [Supervisor.complete, Supervisor.give, h, pulseEvents]

/-! ## Acceptances (R4, R5, R7) -/

/-- Every acceptance starts the duration timer, and none touches the debounce. -/
theorem Supervisor.closure_debounce (v : Supervisor) (breakMax : Nat) (st : LineState) :
    (v.closure breakMax st).loop = v.loop ∧ (v.closure breakMax st).candidate = v.candidate ∧
      (v.closure breakMax st).run = v.run ∧ (v.closure breakMax st).timer = .started := by
  unfold Supervisor.closure Supervisor.give
  cases v.phase with
  | resting => simp
  | breaking =>
    cases st with
    | dialing => dsimp only; split <;> simp
    | _ => simp
  | making => simp
  | steady => simp

theorem Supervisor.opening_debounce (v : Supervisor) :
    v.opening.loop = v.loop ∧ v.opening.candidate = v.candidate ∧ v.opening.run = v.run ∧
      v.opening.timer = .started := by
  unfold Supervisor.opening
  cases v.phase <;> simp

theorem Supervisor.closure_resting {v : Supervisor} (breakMax : Nat) (st : LineState) (h : v.phase = .resting) :
    v.closure breakMax st =
      { v with phase := .making, timer := .started, pulses := 0, handed := v.handed ++ [.offHook] } := by
  simp [Supervisor.closure, Supervisor.give, h]

theorem Supervisor.closure_pulse {v : Supervisor} {breakMax : Nat} (h : v.phase = .breaking)
    (hshort : v.timer.count ≤ breakMax) :
    v.closure breakMax .dialing = { v with phase := .making, timer := .started, pulses := min 11 (v.pulses + 1) } := by
  simp [Supervisor.closure, h, hshort]

theorem Supervisor.closure_longBreak {v : Supervisor} {breakMax : Nat} (h : v.phase = .breaking)
    (hlong : breakMax < v.timer.count) :
    v.closure breakMax .dialing =
      { v with phase := .making, timer := .started, pulses := 0, handed := v.handed ++ [.misdial] } := by
  simp [Supervisor.closure, Supervisor.give, h, Nat.not_le.mpr hlong]

theorem Supervisor.closure_breakIdle {v : Supervisor} (breakMax : Nat) (h : v.phase = .breaking) :
    v.closure breakMax .idle =
      { v with phase := .making, timer := .started, pulses := 0, handed := v.handed ++ [.offHook] } := by
  simp [Supervisor.closure, Supervisor.give, h]

theorem Supervisor.closure_breakElse {v : Supervisor} (breakMax : Nat) {st : LineState} (h : v.phase = .breaking)
    (hdialing : st ≠ .dialing) (hidle : st ≠ .idle) :
    v.closure breakMax st = { v with phase := .making, timer := .started, pulses := 0 } := by
  cases st with
  | dialing => exact absurd rfl hdialing
  | idle => exact absurd rfl hidle
  | _ => simp [Supervisor.closure, h]

theorem Supervisor.opening_made {v : Supervisor} (h : v.phase = .making ∨ v.phase = .steady) :
    v.opening = { v with phase := .breaking, timer := .started } := by
  unfold Supervisor.opening
  rcases h with h | h <;> rw [h]

/-! ## The debounce (R2) -/

/-- What an accepted loop value makes of the supervisor. -/
def Supervisor.accept (v : Supervisor) (loop : Loop) (breakMax : Nat) (st : LineState) : Supervisor :=
  match loop with
  | .closed => { v with loop := .closed, candidate := none, run := 0 }.closure breakMax st
  | .opened => { v with loop := .opened, candidate := none, run := 0 }.opening

section Debounce

variable {v : Supervisor} {loop : Loop} {debounceCount : Nat} (breakMax : Nat) (st : LineState)

theorem Supervisor.debounce_same (h : loop = v.loop) :
    v.debounce loop debounceCount breakMax st = { v with candidate := none, run := 0 } := if_pos h

theorem Supervisor.debounce_extends (h : loop ≠ v.loop) (hcand : v.candidate = some loop)
    (hrun : v.run + 1 < debounceCount) :
    v.debounce loop debounceCount breakMax st = { v with run := v.run + 1 } := by
  simp only [Supervisor.debounce, if_neg h, hcand, if_true, if_neg (Nat.not_le.mpr hrun)]

theorem Supervisor.debounce_begins (h : loop ≠ v.loop) (hcand : v.candidate ≠ some loop) (hrun : 1 < debounceCount) :
    v.debounce loop debounceCount breakMax st = { v with candidate := some loop, run := 1 } := by
  simp only [Supervisor.debounce, if_neg h, if_neg hcand, if_neg (Nat.not_le.mpr hrun)]

theorem Supervisor.debounce_accepts (h : loop ≠ v.loop)
    (hrun : debounceCount ≤ if v.candidate = some loop then v.run + 1 else 1) :
    v.debounce loop debounceCount breakMax st = v.accept loop breakMax st := by
  unfold Supervisor.debounce
  rw [if_neg h]
  refine (if_pos hrun).trans ?_
  cases loop <;> rfl

end Debounce

/-- An acceptance makes the value the debounced loop, ends the run and starts the duration timer. -/
theorem Supervisor.accept_debounce (v : Supervisor) (loop : Loop) (breakMax : Nat) (st : LineState) :
    (v.accept loop breakMax st).loop = loop ∧ (v.accept loop breakMax st).candidate = none ∧
      (v.accept loop breakMax st).run = 0 ∧ (v.accept loop breakMax st).timer = .started := by
  cases loop with
  | opened => exact Supervisor.opening_debounce _
  | closed => exact Supervisor.closure_debounce _ breakMax st

/-! ## The digit field (R12 to R14) -/

theorem Phase.hearsTone_iff (phase : Phase) : phase.hearsTone = true ↔ phase = .making ∨ phase = .steady := by
  cases phase <;> simp [Phase.hearsTone]

theorem asFin_val {bound : Nat} (x : Fin bound) : asFin bound x.val = some x := dif_pos x.isLt

theorem asFin_none {bound v : Nat} (h : bound ≤ v) : asFin bound v = none := dif_neg (Nat.not_lt.mpr h)

/-- A digit edge: the standing pulse digit is completed, then the tone digit is handed. -/
theorem Supervisor.toneField_edge {v : Supervisor} (d : Digit) (hlast : v.lastPresent = false)
    (hphase : v.phase = .making ∨ v.phase = .steady) :
    v.toneField true d.val .dialing =
      { v with lastPresent := true, pulses := 0, handed := v.handed ++ pulseEvents v.pulses ++ [.digit d] } := by
  simp [Supervisor.toneField, hlast, (Phase.hearsTone_iff _).mpr hphase, asFin_val, Supervisor.complete_dialing,
    Supervisor.give]

/-- No tone digit can be taken: the flag alone follows the field. -/
theorem Supervisor.toneField_deaf {v : Supervisor} {present : Bool} (code : Nat) {st : LineState}
    (h : (present && !v.lastPresent && v.phase.hearsTone && st == .dialing) = false) :
    v.toneField present code st = { v with lastPresent := present } := if_neg (Bool.eq_false_iff.mp h)

/-- A code that is no digit is consumed. -/
theorem Supervisor.toneField_noDigit (v : Supervisor) (present : Bool) {code : Nat} (st : LineState) (h : 12 ≤ code) :
    v.toneField present code st = { v with lastPresent := present } := by
  simp only [Supervisor.toneField, asFin_none h, ite_self]

/-- An edge with no digit code, and everything that is no edge or comes where no digit is taken. -/
theorem Supervisor.toneField_consumed (v : Supervisor) (present : Bool) (code : Nat) (st : LineState)
    (h : present = false ∨ v.lastPresent = true ∨ 12 ≤ code ∨ v.phase = .resting ∨ v.phase = .breaking ∨
      st ≠ .dialing) :
    v.toneField present code st = { v with lastPresent := present } := by
  obtain hp | hl | hcode | hr | hb | hst := h
  · exact toneField_deaf code (by simp [hp])
  · exact toneField_deaf code (by simp [hl])
  · exact toneField_noDigit v present st hcode
  · exact toneField_deaf code (by simp [hr, Phase.hearsTone])
  · exact toneField_deaf code (by simp [hb, Phase.hearsTone])
  · exact toneField_deaf code (by simp [hst])

/-! ## The rows -/

/-- A sense write that the supervisor takes: what its loop field makes of the supervisor goes on to the digit field. -/
theorem exec_senseWrite {s : State} {n : Line} {w : Word} {v : Supervisor} (h : s.takesWrite (0x080 + n.val) w)
    (hv : s.part.sup[n].debounce (if w.getLsbD 15 then .closed else .opened) s.part.gen.debounceCount
      (8 * s.part.gen.breakMax) s.part.lines[n].state = v) :
    exec (.senseWrite n w) s = .next ((s.served (0x080 + n.val) w).after (s.part.setSupervisor n
      (v.toneField (w.getLsbD 14) (w.extractLsb' 0 4).toNat s.part.lines[n].state))) := by
  subst hv
  exact congrArg _ (State.snooped_after (act := (·.senseWrite n w)) h)

/-- A sense write that ends a run of the debounce count. -/
theorem exec_senseWrite_accepts {s : State} {n : Line} {w : Word} {loop : Loop} (h : s.takesWrite (0x080 + n.val) w)
    (hloop : (if w.getLsbD 15 then Loop.closed else .opened) = loop) (hne : loop ≠ s.part.sup[n].loop)
    (hrun : s.part.gen.debounceCount ≤ if s.part.sup[n].candidate = some loop then s.part.sup[n].run + 1 else 1)
    {v : Supervisor} (hv : s.part.sup[n].accept loop (8 * s.part.gen.breakMax) s.part.lines[n].state = v) :
    exec (.senseWrite n w) s = .next ((s.served (0x080 + n.val) w).after (s.part.setSupervisor n
      (v.toneField (w.getLsbD 14) (w.extractLsb' 0 4).toNat s.part.lines[n].state))) :=
  exec_senseWrite h (by rw [hloop, Supervisor.debounce_accepts _ _ hne hrun, hv])

theorem exec_onHookMinExpiry_due {s : State} {n : Line} (h : s.live) (hdue : s.part.sup[n].timer.due = true)
    (hphase : s.part.sup[n].phase = .breaking) :
    exec (.onHookMinExpiry n) s = .next (s.after (s.part.setSupervisor n { s.part.sup[n] with
      phase := .resting, timer := .stopped, pulses := 0, handed := s.part.sup[n].handed ++ [.onHook] })) := by
  have hd : s.part.onHookMinDue n = true := by rw [Part.onHookMinDue, hphase, hdue]; rfl
  exact congrArg _ (State.eventIf_after (due := (·.onHookMinDue n)) (act := (·.onHookMin n)) h hd)

theorem exec_interDigitPauseExpiry_due {s : State} {n : Line} {v : Supervisor} (h : s.live)
    (hdue : s.part.sup[n].timer.due = true) (hphase : s.part.sup[n].phase = .making)
    (hv : { s.part.sup[n] with phase := .steady, timer := .stopped }.complete s.part.lines[n].state = v) :
    exec (.interDigitPauseExpiry n) s = .next (s.after (s.part.setSupervisor n v)) := by
  subst hv
  have hd : s.part.pauseDue n = true := by rw [Part.pauseDue, hphase, hdue]; rfl
  exact congrArg _ (State.eventIf_after (due := (·.pauseDue n)) (act := (·.interDigitPause n)) h hd)

/-! ## The statements -/

/-- Settles O15, by the cases of the debounce and of the digit field. -/
theorem senseWriteTakesLoopThenDigit : Obligations.SenseWriteTakesLoopThenDigit := by
  refine ⟨fun s n w h => ⟨fun hsame => ?_, fun hne hcand hrun => ?_, fun hne hcand hrun => ?_, fun hne hrun => ?_⟩,
    fun v present code st => ⟨v.toneField_consumed present code st, ?_⟩⟩
  · exact exec_senseWrite h (Supervisor.debounce_same _ _ hsame)
  · exact exec_senseWrite h (Supervisor.debounce_extends _ _ hne hcand hrun)
  · exact exec_senseWrite h (Supervisor.debounce_begins _ _ hne (by rw [hcand]; nofun) hrun)
  · exact ⟨_, exec_senseWrite_accepts h rfl hne hrun rfl, Supervisor.accept_debounce _ _ _ _⟩
  · rintro d rfl hlast rfl hphase rfl
    have edge {events : List LineEvent} (he : pulseEvents v.pulses ++ [.digit d] = events) :
        v.toneField true d.val .dialing =
          { v with lastPresent := true, pulses := 0, handed := v.handed ++ events } := by
      rw [Supervisor.toneField_edge d hlast hphase, List.append_assoc, he]
    exact ⟨fun h0 => edge (by rw [h0]; rfl), fun x hx hlow hhigh => edge (by rw [pulseEvents_digit hx hlow hhigh]; rfl),
      fun h10 => edge (by rw [h10]; rfl), fun h11 => edge (by rw [pulseEvents_misdial h11]; rfl)⟩

/-- Settles O16, by the acceptances of R4 and R5. -/
theorem closureFromRestingAndOpeningOfMake : Obligations.ClosureFromRestingAndOpeningOfMake := by
  intro s n w h
  refine ⟨fun hbit hopen hrest hrun => ?_, fun hbit hclosed hmade hrun => ?_⟩
  · exact exec_senseWrite_accepts h (if_pos hbit) (by rw [hopen]; decide) hrun (Supervisor.closure_resting _ _ hrest)
  · exact exec_senseWrite_accepts h (if_neg (Bool.eq_false_iff.mp hbit)) (by rw [hclosed]; decide) hrun
      (Supervisor.opening_made hmade)

/-- Settles O17, by the rows of Table 1-5. -/
theorem closureEndsTheBreak : Obligations.ClosureEndsTheBreak := by
  intro s n w h hbit hopen hbreak hrun
  have accepts {v : Supervisor} := exec_senseWrite_accepts (v := v) h (if_pos hbit) (by rw [hopen]; decide) hrun
  refine ⟨fun hst hshort => accepts ?_, fun hst hlong => accepts ?_, fun hst => accepts ?_,
    fun hdialing hidle => accepts ?_⟩
  · rw [hst]; exact Supervisor.closure_pulse hbreak hshort
  · rw [hst]; exact Supervisor.closure_longBreak hbreak hlong
  · rw [hst]; exact Supervisor.closure_breakIdle (8 * s.part.gen.breakMax) hbreak
  · exact Supervisor.closure_breakElse _ hbreak hdialing hidle

/-- Settles O18, by the completion of the standing count (Table 1-6). -/
theorem supervisorTimersHandOnHookAndDigits : Obligations.SupervisorTimersHandOnHookAndDigits := by
  intro s n hlive hdue
  refine ⟨exec_onHookMinExpiry_due hlive hdue, fun hmade hnone => ?_, fun hmade hst => ?_⟩
  · refine exec_interDigitPauseExpiry_due hlive hdue hmade ?_
    rcases hnone with h0 | hst
    · exact Supervisor.complete_noPulses _ h0
    · exact Supervisor.complete_notDialing _ hst
  · have completes {events : List LineEvent} (he : pulseEvents s.part.sup[n].pulses = events) :
        exec (.interDigitPauseExpiry n) s = .next (s.after (s.part.setSupervisor n { s.part.sup[n] with
          phase := .steady, timer := .stopped, pulses := 0, handed := s.part.sup[n].handed ++ events })) :=
      exec_interDigitPauseExpiry_due hlive hdue hmade (by rw [hst, Supervisor.complete_dialing, he])
    exact ⟨fun x hx hlow hhigh => completes (pulseEvents_digit hx hlow hhigh),
      fun h10 => completes (by rw [h10]; exact pulseEvents_ten), fun h11 => completes (pulseEvents_misdial h11)⟩

end Sys2Proof.Machine
end

section
/-! What the release of RESETN leaves in the part's vectors, and the statement about every block. -/

namespace Sys2Proof.Machine

theorem getElem_replicate_fin {α : Type} {m : Nat} (x : α) (i : Fin m) : (Vector.replicate m x)[i] = x := by simp

theorem State.reset_sup (n : Line) : State.reset.part.sup[n] = Supervisor.reset := getElem_replicate_fin _ n
theorem State.reset_line (n : Line) : State.reset.part.lines[n] = LineRecord.reset := getElem_replicate_fin _ n
theorem State.reset_entry (d : EntryIx) : State.reset.part.directory[d] = DirEntry.reset := getElem_replicate_fin _ d
theorem State.reset_waiter (n : Line) : State.reset.part.alloc.waiters[n] = none := getElem_replicate_fin _ n
theorem State.reset_pointer (k : Chan) : State.reset.part.alloc.pointers[k] = ⟨none, none, none⟩ :=
  getElem_replicate_fin _ k
theorem State.reset_chan (k : Chan) : State.reset.part.chans[k] = ChanRecord.reset := getElem_replicate_fin _ k
theorem State.reset_code (x : Code) : State.reset.part.codes[x] = none := getElem_replicate_fin _ x
theorem State.reset_slot (n : Line) : State.reset.part.ring.slots[n] = none := getElem_replicate_fin _ n
theorem State.reset_alert (n : Line) : State.reset.part.ring.alert[n] = .stopped := getElem_replicate_fin _ n
theorem State.reset_position (n : Line) : State.reset.part.tone.positions[n] = TonePosition.reset :=
  getElem_replicate_fin _ n
theorem State.reset_toneStep (t : ToneIx) (i : Fin 4) : State.reset.part.tone.descriptors[t][i] = ⟨0, 0, 0⟩ := by
  have ht : State.reset.part.tone.descriptors[t] = Vector.replicate 4 ⟨0, 0, 0⟩ := getElem_replicate_fin _ t
  rw [ht, getElem_replicate_fin]

/-- Settles O3: each vector holds its reset value at every index, and the other blocks are the reset records. -/
theorem resetValues : Obligations.ResetValues := by
  refine ⟨State.reset_sup, ?lineState, ?lineRest, ?profile, State.reset_entry, State.reset_waiter, rfl,
    State.reset_pointer, ?config, ?chanState, ?chanRest, State.reset_code, rfl, rfl, ?ring, rfl, State.reset_toneStep, rfl,
    State.reset_position, fun _ => rfl, rfl, rfl, rfl, rfl, rfl, rfl, rfl, rfl, rfl, rfl⟩
  case lineState | lineRest | profile => intro n; rw [State.reset_line]; rfl
  case config | chanState | chanRest => intro k; rw [State.reset_chan]; rfl
  case ring => exact fun n => ⟨State.reset_slot n, by rw [State.reset_alert]; rfl⟩

end Sys2Proof.Machine
end

section
/-! The records of the line controller: what a state entry makes of a line's record, of its tone position and of the report,
and then the statement about it (02_line_states.md 2.3, R19, R21, R44; R144, R145). -/

namespace Sys2Proof.Machine

/-! ## A record handed to the report writer (R179) -/

section Hand

variable (p : Part) (kind : RecordKind) (x : Subject) (a b : Word)

/-- Only the disposal of a snapshot record is the command unit's business. -/
@[simp] theorem Part.hand_cmd : (p.hand kind x a b).cmd = p.cmd := by
  unfold Part.hand Part.enqueueRecord
  split
  · split <;> rfl
  · rfl

@[simp] theorem Part.hand_outbox (tag : SnapshotTag) : (p.hand kind x a b tag).outbox = p.outbox := by
  unfold Part.hand Part.enqueueRecord
  split
  · split <;> rfl
  · rfl

variable {p} in
/-- What becomes of a record depends on the report writer, the enable mask and the report clock alone. -/
theorem Part.hand_report_congr {q : Part} (hreport : p.report = q.report) (hgen : p.gen = q.gen)
    (hclock : p.clock = q.clock) : (p.hand kind x a b).report = (q.hand kind x a b).report := by
  have henabled : p.groupEnabled kind = q.groupEnabled kind := by unfold Part.groupEnabled; rw [hgen]
  unfold Part.hand Part.enqueueRecord
  rw [henabled, hreport, hclock]
  split
  · split <;> rfl
  · exact hreport

variable {p kind} in
theorem Part.hand_queue_room (henabled : p.groupEnabled kind = true) (hroom : p.report.queue.length < 8) :
    (p.hand kind x a b).report.queue = p.report.queue ++ [{
      kind := kind, subject := x, detailA := a, detailB := b, stamp := p.clock.ms, snapshot := .notSnapshot }] := by
  have hlimit : p.report.queue.length < Config.reportQueueLimit := hroom
  unfold Part.hand Part.enqueueRecord
  rw [if_pos henabled, if_pos hlimit]

end Hand

/-! ## The tone position (R144, R145) -/

@[simp] theorem Part.judgeTone_outbox (p : Part) (n : Line) : (p.judgeTone n).outbox = p.outbox := by
  unfold Part.judgeTone; simp only; split <;> rfl

theorem Part.judgeTone_same {p : Part} {n : Line} (h : p.tone.positions[n].tone = selectedTone p.lines[n]) :
    p.judgeTone n = p := if_pos h

theorem Part.judgeTone_restarts {p : Part} {n : Line} (h : p.tone.positions[n].tone ≠ selectedTone p.lines[n]) :
    p.judgeTone n = p.setTonePosition n (.restarted p.tone.descriptors (selectedTone p.lines[n])) := if_neg h

theorem Part.judgeTone_positions_ne (p : Part) {n m : Line} (h : m ≠ n) :
    (p.judgeTone n).tone.positions[m] = p.tone.positions[m] := by
  by_cases hsame : p.tone.positions[n].tone = selectedTone p.lines[n]
  · rw [Part.judgeTone_same hsame]
  · rw [Part.judgeTone_restarts hsame, Part.setTonePosition_positions, getElem_set_fin, if_neg h.symm]

/-- R145: the position of a silent line. -/
theorem TonePosition.restarted_none (descriptors : Vector (Vector ToneStep 4) 8) :
    TonePosition.restarted descriptors none = { tone := none, step := 0, left := .count 0, phase := 0, next := none } := rfl

/-- R145: the position at the start of a tone. -/
theorem TonePosition.restarted_some (descriptors : Vector (Vector ToneStep 4) 8) (t : ToneIx) :
    TonePosition.restarted descriptors (some t) = {
      tone := some t, step := 0, phase := 0, next := none
      left := if descriptors[t][0].duration = 0 then .held else .count (8 * descriptors[t][0].duration) } := rfl

/-! ## The line record on entering a state (R19, R21) -/

section Enter

variable (l : LineRecord) (st : LineState) (cause : Option Cause) (howlerDone : Bool)

@[simp] theorem LineRecord.enter_state : (l.enter st cause howlerDone).state = st := by cases st <;> rfl

theorem LineRecord.enter_cause :
    (l.enter st cause howlerDone).cause = if st = .cleardown then cause else none := by cases st <;> rfl

variable {st}

/-- IDLE and OUT-OF-SERVICE clear what belongs to a call. -/
theorem LineRecord.enter_clears (h : st = .idle ∨ st = .outOfService) :
    l.enter st cause howlerDone = { l with
      state := st, cause := none, timer := .stopped, partner := none, role := none, digits := [], route := none
      firstDigitSeen := false, answeredAsCaller := false, howlerDone := false } := by
  obtain rfl | rfl := h <;> rfl

/-- The other states keep it. -/
theorem LineRecord.enter_keeps (hidle : st ≠ .idle) (hout : st ≠ .outOfService) :
    (l.enter st cause howlerDone).partner = l.partner ∧ (l.enter st cause howlerDone).role = l.role ∧
      (l.enter st cause howlerDone).digits = l.digits ∧ (l.enter st cause howlerDone).route = l.route ∧
      (l.enter st cause howlerDone).answeredAsCaller = l.answeredAsCaller := by
  cases st with
  | idle => exact absurd rfl hidle
  | outOfService => exact absurd rfl hout
  | _ => exact ⟨rfl, rfl, rfl, rfl, rfl⟩

theorem LineRecord.enter_firstDigitSeen (hidle : st ≠ .idle) (hout : st ≠ .outOfService) (hdialing : st ≠ .dialing) :
    (l.enter st cause howlerDone).firstDigitSeen = l.firstDigitSeen := by
  cases st with
  | idle => exact absurd rfl hidle
  | outOfService => exact absurd rfl hout
  | dialing => exact absurd rfl hdialing
  | _ => rfl

theorem LineRecord.enter_howlerDone (hidle : st ≠ .idle) (hout : st ≠ .outOfService) (hlockout : st ≠ .lockout) :
    (l.enter st cause howlerDone).howlerDone = l.howlerDone := by
  cases st with
  | idle => exact absurd rfl hidle
  | outOfService => exact absurd rfl hout
  | lockout => exact absurd rfl hlockout
  | _ => rfl

/-- Table 2-4: the limit of DIALING by the hotline of the profile. -/
theorem LineRecord.enter_dialing :
    (l.enter .dialing cause howlerDone).firstDigitSeen = false ∧
      (l.enter .dialing cause howlerDone).timer = .started ∧
      (l.enter .dialing cause howlerDone).limit =
        if l.profile.hotline.isSome = true ∧ l.profile.hotlineDelay ≠ 0
        then .hotlineDelay l.profile.hotlineDelay else .firstDigit := by
  have htiming : l.timerOnEntry .dialing howlerDone = (.started,
      if l.profile.hotline.isSome = true ∧ l.profile.hotlineDelay ≠ 0
      then .hotlineDelay l.profile.hotlineDelay else .firstDigit) := by
    simp only [LineRecord.timerOnEntry, Bool.and_eq_true, bne_iff_ne]
    split <;> rfl
  exact ⟨rfl, congrArg Prod.fst htiming, congrArg Prod.snd htiming⟩

/-- Table 2-4: the howler time runs in LOCKOUT until howler done. -/
theorem LineRecord.enter_lockout_howling :
    (l.enter .lockout cause false).timer = .started ∧ (l.enter .lockout cause false).limit = .howler := ⟨rfl, rfl⟩

/-- Table 2-4: the states in which the state timer stands still. -/
theorem LineRecord.enter_stops
    (h : (st = .lockout ∧ howlerDone = true) ∨ (st ≠ .dialing ∧ st ≠ .cleardown ∧ st ≠ .lockout)) :
    (l.enter st cause howlerDone).timer = .stopped ∧ (l.enter st cause howlerDone).limit = l.limit := by
  obtain ⟨rfl, rfl⟩ | ⟨hdialing, hcleardown, hlockout⟩ := h
  · exact ⟨rfl, rfl⟩
  · cases st with
    | dialing => exact absurd rfl hdialing
    | cleardown => exact absurd rfl hcleardown
    | lockout => exact absurd rfl hlockout
    | _ => exact ⟨rfl, rfl⟩

end Enter

/-! ## A line enters a state -/

section EnterLine

variable (p : Part) (n : Line) (st : LineState) (cause : Option Cause) (howlerDone : Bool)

theorem Part.enterLine_self : (p.enterLine n st cause howlerDone).lines[n] = p.lines[n].enter st cause howlerDone := by
  rw [Part.enterLine_lines, getElem_set_fin_same]

variable {n} in
theorem Part.enterLine_ne {m : Line} (h : m ≠ n) : (p.enterLine n st cause howlerDone).lines[m] = p.lines[m] := by
  rw [Part.enterLine_lines, getElem_set_fin, if_neg h.symm]

@[simp] theorem Part.enterLine_cmd : (p.enterLine n st cause howlerDone).cmd = p.cmd := by
  simp [Part.enterLine, Part.handLineState]

@[simp] theorem Part.enterLine_outbox : (p.enterLine n st cause howlerDone).outbox = p.outbox := by
  simp only [Part.enterLine, Part.handLineState, Part.hand_outbox, Part.judgeTone_outbox, Part.setLine_outbox]

variable {n} in
theorem Part.enterLine_positions_ne {m : Line} (h : m ≠ n) :
    (p.enterLine n st cause howlerDone).tone.positions[m] = p.tone.positions[m] := by
  rw [Part.enterLine_tone, Part.judgeTone_positions_ne _ h, Part.setLine_tone]

variable {p n st cause howlerDone}

theorem Part.enterLine_position_same
    (h : p.tone.positions[n].tone = selectedTone (p.enterLine n st cause howlerDone).lines[n]) :
    (p.enterLine n st cause howlerDone).tone.positions[n] = p.tone.positions[n] := by
  rw [Part.enterLine_tone, Part.judgeTone_same (by simpa using h), Part.setLine_tone]

theorem Part.enterLine_position_restarts
    (h : p.tone.positions[n].tone ≠ selectedTone (p.enterLine n st cause howlerDone).lines[n]) :
    (p.enterLine n st cause howlerDone).tone.positions[n] =
      .restarted p.tone.descriptors (selectedTone (p.enterLine n st cause howlerDone).lines[n]) := by
  rw [Part.enterLine_tone, Part.judgeTone_restarts (by simpa using h), Part.setTonePosition_positions,
    getElem_set_fin_same]
  simp

variable (p n st cause howlerDone)

/-- R44: the LINE-STATE record of an entry, as it is coded. -/
theorem Part.enterLine_report :
    (p.enterLine n st cause howlerDone).report = (p.hand .lineState (.line n)
      (detail2 st.item (if st = .cleardown then optItem Cause.item cause else 0xFF))
      (partnerDetail (p.enterLine n st cause howlerDone).lines[n].partner)).report := by
  have hcause : optItem Cause.item (p.lines[n].enter st cause howlerDone).cause =
      if st = .cleardown then optItem Cause.item cause else 0xFF := by
    rw [LineRecord.enter_cause]; split <;> rfl
  rw [Part.enterLine_self, ← hcause]
  unfold Part.enterLine Part.handLineState
  simp only [Part.judgeTone_lines, Part.setLine_lines, getElem_set_fin_same, LineRecord.enter_state]
  exact Part.hand_report_congr _ _ _ _ (by simp) (by simp) (by simp)

end EnterLine

/-- Settles O19: the record by the state entered, the tone position by the tone selected then, the report by the record
handed, and the frame. -/
theorem enteringALineState : Obligations.EnteringALineState := by
  intro p n st cause howlerDone q l
  have hself : q.lines[n] = l.enter st cause howlerDone := Part.enterLine_self ..
  have hreport := Part.enterLine_report p n st cause howlerDone
  refine ⟨?state, ?profile, ?cause, ?clears, ?keeps, ?dialing, ?cleardown, ?firstDigitSeen, ?howlerDone, ?limit, ?lockout,
    ?howling, ?stops, ?sameTone, ?silent, ?newTone, ?queue, hreport, Part.enterLine_cmd .., Part.enterLine_outbox ..,
    fun m hm => ⟨Part.enterLine_ne _ _ _ _ hm, Part.enterLine_positions_ne _ _ _ _ hm⟩, Part.enterLine_sup ..,
    Part.enterLine_directory .., Part.enterLine_alloc .., Part.enterLine_chans .., Part.enterLine_codes ..,
    Part.enterLine_link .., Part.enterLine_supply .., Part.enterLine_ring .., Part.enterLine_tone_descriptors ..,
    Part.enterLine_tone_cadence .., Part.enterLine_copies .., Part.enterLine_gen .., Part.enterLine_clock ..⟩
  case sameTone =>
    rintro tone rfl hsame
    exact Part.enterLine_position_same hsame
  case silent =>
    intro hnone hne
    exact (Part.enterLine_position_restarts (by rwa [hnone])).trans (by rw [hnone, TonePosition.restarted_none])
  case newTone =>
    intro t ht hne
    exact (Part.enterLine_position_restarts (by rwa [ht])).trans (by rw [ht, TonePosition.restarted_some])
  case queue =>
    intro henabled hroom
    rw [hreport, Part.hand_queue_room _ _ _ henabled hroom]
  all_goals rw [hself]
  case state => exact LineRecord.enter_state ..
  case profile => exact LineRecord.enter_profile ..
  case cause => exact LineRecord.enter_cause ..
  case clears =>
    intro h
    rw [LineRecord.enter_clears l cause howlerDone h]
    exact ⟨rfl, rfl⟩
  case keeps =>
    intro hidle hout
    obtain ⟨hpartner, hrole, hdigits, hroute, hanswered⟩ := LineRecord.enter_keeps l cause howlerDone hidle hout
    rw [hpartner, hrole, hdigits, hroute, hanswered]
  case dialing =>
    rintro rfl
    exact LineRecord.enter_dialing ..
  case cleardown =>
    rintro rfl
    exact ⟨rfl, rfl⟩
  case firstDigitSeen => exact LineRecord.enter_firstDigitSeen l cause howlerDone
  case howlerDone => exact LineRecord.enter_howlerDone l cause howlerDone
  case limit =>
    intro hdialing hcleardown hlockout
    refine (LineRecord.enter_stops l cause howlerDone ?_).2
    by_cases hst : st = .lockout
    · exact .inl ⟨hst, hlockout.resolve_left (· hst)⟩
    · exact .inr ⟨hdialing, hcleardown, hst⟩
  case lockout =>
    rintro rfl
    rfl
  case howling =>
    rintro rfl rfl
    exact LineRecord.enter_lockout_howling ..
  case stops => exact fun h => (LineRecord.enter_stops l cause howlerDone h).1

end Sys2Proof.Machine
end

section
/-! The words that the reads of a line or a channel are served from, by its state (Table 2-2, Table 5-6, R90, R139, R147 to
R150), and then the two statements about them. -/

namespace Sys2Proof.Machine

/-! ## Listen reads -/

/-- A whole listen read on an idle port. -/
theorem exec_lineListenRead {s : State} (n : Line) (h : s.live) (hidle : s.path.idle = true) :
    exec (.lineListenRead n) s =
      .next (s.readFrom (0x040 + n.val) (s.part.listenSource n) s.part.lines[n].profile.level) := by
  have hread := State.readWord_live (s := s) (off := 0x040 + n.val) (by omega) h hidle
  rw [Part.translate_lineListen] at hread
  exact congrArg _ hread

/-- The states in which a line hears its partner select no tone. -/
theorem selectedTone_connected {l : LineRecord} (h : l.state = .trunkSetup ∨ l.state = .talk) : selectedTone l = none := by
  rcases h with h | h <;> simp [selectedTone, h]

theorem Part.listenSource_connected {p : Part} {n : Line} (h : p.lines[n].state = .trunkSetup ∨ p.lines[n].state = .talk) :
    p.listenSource n = partnerTalkOffset p.lines[n].partner := by
  rcases h with h | h <;> simp only [Part.listenSource, h]

theorem Part.listenSource_apart {p : Part} {n : Line} (hsetup : p.lines[n].state ≠ .trunkSetup)
    (htalk : p.lines[n].state ≠ .talk) :
    p.listenSource n = if (selectedTone p.lines[n]).isSome = true then p.toneWordOffset n else 0x140 := by
  unfold Part.listenSource
  cases hst : p.lines[n].state with
  | trunkSetup => exact absurd hst hsetup
  | talk => exact absurd hst htalk
  | _ => simp only [hst]; rfl

theorem Part.listenSource_tone {p : Part} {n : Line} {t : ToneIx} (h : selectedTone p.lines[n] = some t) :
    p.listenSource n = p.toneWordOffset n := by
  have apart (hst : p.lines[n].state = .trunkSetup ∨ p.lines[n].state = .talk) : False :=
    nomatch (selectedTone_connected hst).symm.trans h
  rw [Part.listenSource_apart (fun hst => apart (.inl hst)) (fun hst => apart (.inr hst)), h]
  rfl

theorem Part.listenSource_silent {p : Part} {n : Line} (h : selectedTone p.lines[n] = none)
    (hsetup : p.lines[n].state ≠ .trunkSetup) (htalk : p.lines[n].state ≠ .talk) : p.listenSource n = 0x140 := by
  rw [Part.listenSource_apart hsetup htalk, h]
  rfl

/-- Table 8-5: the states without a tone, other than those in which the partner is heard. -/
theorem selectedTone_silent {l : LineRecord} (h : l.state = .outOfService ∨ l.state = .idle ∨ l.state = .alerting ∨
      (l.state = .dialing ∧ l.firstDigitSeen = true) ∨ (l.state = .lockout ∧ l.howlerDone = true)) :
    selectedTone l = none := by
  unfold selectedTone
  rcases h with h | h | h | ⟨h, hseen⟩ | ⟨h, hdone⟩ <;> rw [h]
  · exact if_pos hseen
  · exact if_pos hdone

/-- Table 8-5: the states with a tone. -/
theorem selectedTone_sounds {l : LineRecord} {t : ToneIx}
    (h : (l.state = .dialing ∧ l.firstDigitSeen = false ∧ t = 0) ∨ (l.state = .queued ∧ t = 7) ∨
      (l.state = .localCalling ∧ t = 1) ∨ (l.state = .lockout ∧ l.howlerDone = false ∧ t = 5) ∨
      (l.state = .cleardown ∧ ((l.cause = some .busy ∧ t = 2) ∨ (l.cause = some .congestion ∧ t = 3) ∨
        (l.cause = some .unobtainable ∧ t = 4) ∨ (l.cause = some .preempted ∧ t = 6)))) :
    selectedTone l = some t := by
  unfold selectedTone
  rcases h with ⟨h, hseen, rfl⟩ | ⟨h, rfl⟩ | ⟨h, rfl⟩ | ⟨h, hdone, rfl⟩ | ⟨h, hcause⟩ <;> rw [h]
  case inl => simp [hseen]
  case inr.inr.inr.inl => simp [hdone]
  case inr.inr.inr.inr => rcases hcause with ⟨hc, rfl⟩ | ⟨hc, rfl⟩ | ⟨hc, rfl⟩ | ⟨hc, rfl⟩ <;> rw [hc]

/-! ## The place of a tone or cadence position -/

@[simp] theorem TonePosition.moved_tone (x : TonePosition) : x.moved.tone = x.tone := by
  unfold TonePosition.moved; split <;> rfl

theorem TonePosition.moved_ended {x : TonePosition} {step : Fin 4} {left : FramesLeft} (h : x.next = some (step, left)) :
    x.moved = { x with step := step, left := left, phase := 0, next := none } := by
  unfold TonePosition.moved; rw [h]

theorem TonePosition.moved_running {x : TonePosition} (h : x.next = none) : x.moved = x := by
  unfold TonePosition.moved; rw [h]

theorem CadencePosition.moved_step (c : CadencePosition) : c.moved.step = c.next.getD c.step := by
  unfold CadencePosition.moved; split <;> simp_all

/-- R147: the word of the tone store that a position running a tone names, or silence in an empty segment. -/
theorem Part.toneWordOffset_running {p : Part} {n : Line} {t : ToneIx} (h : p.tone.positions[n].tone = some t) :
    p.toneWordOffset n =
      if p.tone.descriptors[t][p.tone.positions[n].moved.step].length = 0 then 0x140
      else 0x200 + (p.tone.descriptors[t][p.tone.positions[n].moved.step].start +
        p.tone.positions[n].moved.phase % p.tone.descriptors[t][p.tone.positions[n].moved.step].length) := by
  have hmoved : p.tone.positions[n].moved.tone = some t := by rw [TonePosition.moved_tone, h]
  unfold Part.toneWordOffset
  simp only [hmoved]
  rfl

/-- Settles O12, by the tone that the line's state selects. -/
theorem lineListenReadByState : Obligations.LineListenReadByState := by
  intro s n hlive hidle l served
  have serves {source : Nat} (h : s.part.listenSource n = source) : served source := by
    subst h
    exact exec_lineListenRead n hlive hidle
  refine ⟨fun hsilent => ?silent, fun m hst hm => ?line, fun k hst hk => ?chan, ?tone⟩
  case silent =>
    refine serves (Part.listenSource_silent (selectedTone_silent hsilent) ?_ ?_) <;>
      rcases hsilent with h | h | h | ⟨h, -⟩ | ⟨h, -⟩ <;> exact fun h' => nomatch h.symm.trans h'
  case line =>
    refine serves ((Part.listenSource_connected hst).trans ?_)
    rw [show s.part.lines[n].partner = _ from hm]
    exact Nat.zero_add _
  case chan =>
    refine serves ((Part.listenSource_connected hst).trans ?_)
    rw [show s.part.lines[n].partner = _ from hk]
    rfl
  case tone =>
    intro t hst hx x place step
    have hplace : place = (x.moved.step, x.moved.phase) := by
      cases hnext : x.next with
      | none => rw [TonePosition.moved_running hnext]; simp only [place, hnext]
      | some next => rw [TonePosition.moved_ended hnext]; simp only [place, hnext]
    have hsource : s.part.listenSource n =
        if step.length = 0 then 0x140 else 0x200 + (step.start + place.2 % step.length) := by
      rw [Part.listenSource_tone (selectedTone_sounds hst), Part.toneWordOffset_running hx]
      simp only [step, hplace]
      rfl
    exact ⟨fun hempty => serves (hsource.trans (if_pos hempty)), fun hfull => serves (hsource.trans (if_neg hfull))⟩

/-! ## Drive reads -/

/-- A whole drive read on an idle port. -/
theorem exec_lineDriveRead {s : State} {n : Line} {i : Fin 5} (h : s.live) (hidle : s.path.idle = true)
    (hpattern : s.part.drivePattern n = i) :
    exec (.lineDriveRead n) s = .next (s.readFrom (0x0C0 + n.val) (0x141 + i.val) .unity) := by
  subst hpattern
  have hread := State.readWord_live (s := s) (off := 0x0C0 + n.val) (by omega) h hidle
  rw [Part.translate_lineDrive] at hread
  exact congrArg _ hread

/-- R139: the slot holder rings by the kind of the step it stands in. -/
theorem Part.ringing_slot {p : Part} {n : Line} {c : CadencePosition} (h : p.ring.slots[n] = some c) :
    p.ringing n = p.tone.cadence[c.next.getD c.step].on := by
  simp only [Part.ringing, h, CadencePosition.moved_step]

theorem Part.ringing_noSlot {p : Part} {n : Line} (h : p.ring.slots[n] = none) : p.ringing n = false := by
  unfold Part.ringing
  rw [h]

/-- Table 2-2: the states whose drive pattern is P0 whatever else the record holds. -/
theorem Part.drivePattern_quiet {p : Part} {n : Line}
    (h : p.lines[n].state = .idle ∨ p.lines[n].state = .dialing ∨ p.lines[n].state = .queued ∨
      p.lines[n].state = .trunkSetup ∨ p.lines[n].state = .localCalling ∨ p.lines[n].state = .cleardown) :
    p.drivePattern n = 0 := by
  unfold Part.drivePattern
  rcases h with h | h | h | h | h | h <;> simp only [h]

theorem Part.drivePattern_outOfService {p : Part} {n : Line} (h : p.lines[n].state = .outOfService) :
    p.drivePattern n = 4 := by
  simp only [Part.drivePattern, h]

theorem Part.drivePattern_silentRing {p : Part} {n : Line} (h : p.lines[n].state = .alerting)
    (hring : p.ringing n = false) : p.drivePattern n = 0 := by
  simp only [Part.drivePattern, h, hring, Bool.false_eq_true, if_false]

theorem Part.drivePattern_rings {p : Part} {n : Line} (h : p.lines[n].state = .alerting) (hring : p.ringing n = true) :
    (p.lines[n].profile.ringPattern = .a → p.drivePattern n = 2) ∧
      (p.lines[n].profile.ringPattern = .b → p.drivePattern n = 3) := by
  refine ⟨fun hpattern => ?_, fun hpattern => ?_⟩ <;> simp only [Part.drivePattern, h, hring, hpattern, if_true]

theorem Part.drivePattern_talk {p : Part} {n : Line} (h : p.lines[n].state = .talk) :
    p.drivePattern n =
      if p.lines[n].answeredAsCaller = true ∧ p.lines[n].profile.reversal = true then 1 else 0 := by
  simp only [Part.drivePattern, h, Bool.and_eq_true]

theorem Part.drivePattern_lockout {p : Part} {n : Line} (h : p.lines[n].state = .lockout) :
    p.drivePattern n = if p.lines[n].howlerDone = true then 4 else 0 := by
  simp only [Part.drivePattern, h]

/-! ## Channel reads -/

/-- A whole channel listen read on an idle port. -/
theorem exec_channelListenRead {s : State} (k : Chan) (h : s.live) (hidle : s.path.idle = true) :
    exec (.channelListenRead k) s = .next (s.readFrom (0x110 + k.val) (s.part.chanListenSource k) .unity) := by
  have hread := State.readWord_live (s := s) (off := 0x110 + k.val) (by omega) h hidle
  rw [Part.translate_chanListen] at hread
  exact congrArg _ hread

/-- A whole signal-out read on an idle port. -/
theorem exec_signalOutRead {s : State} {k : Chan} {c : SignalCode} (h : s.live) (hidle : s.path.idle = true)
    (hcode : codeSent s.part.chans[k] = c) :
    exec (.signalOutRead k) s = .next (s.readFrom (0x130 + k.val) (0x150 + c.toCode.val) .unity) := by
  subst hcode
  have hread := State.readWord_live (s := s) (off := 0x130 + k.val) (by omega) h hidle
  rw [Part.translate_signalOut] at hread
  exact congrArg _ hread

/-- R149: a channel in a call that it carries hears its partner line. -/
theorem Part.chanListenSource_joined {p : Part} {k : Chan} {m : Line}
    (h : p.chans[k].state = .seizing ∨ p.chans[k].state = .sending ∨ p.chans[k].state = .awaitAnswer ∨
      p.chans[k].state = .talk) (hm : p.chans[k].partner = some m) : p.chanListenSource k = m.val := by
  unfold Part.chanListenSource
  rcases h with h | h | h | h <;> simp only [h, hm, lineTalkOffset, Nat.zero_add]

theorem Part.chanListenSource_silent {p : Part} {k : Chan}
    (h : p.chans[k].state ≠ .seizing ∧ p.chans[k].state ≠ .sending ∧ p.chans[k].state ≠ .awaitAnswer ∧
      p.chans[k].state ≠ .talk) : p.chanListenSource k = 0x140 := by
  obtain ⟨hseizing, hsending, hawait, htalk⟩ := h
  unfold Part.chanListenSource
  cases hst : p.chans[k].state with
  | seizing => exact absurd hst hseizing
  | sending => exact absurd hst hsending
  | awaitAnswer => exact absurd hst hawait
  | talk => exact absurd hst htalk
  | _ => simp only [hst]; rfl

/-- Table 5-6: the code sent in the states in which nothing but the state decides it. -/
theorem codeSent_byState (c : ChanRecord) :
    ((c.state = .offline ∨ c.state = .fault) → codeSent c = .blocked) ∧
      ((c.state = .idle ∨ c.state = .releasing ∨ c.state = .blockedFar) → codeSent c = .idle) ∧
      (c.state = .seizing → codeSent c = .seize) ∧ (c.state = .awaitAnswer → codeSent c = .ending) ∧
      (c.state = .incoming → codeSent c = .proceed) ∧ (c.state = .ringingIn → codeSent c = .ringing) ∧
      (c.state = .talk → codeSent c = .answer) ∧ (c.state = .clearing → codeSent c = .clear) := by
  unfold codeSent
  refine ⟨?_, ?_, ?_, ?_, ?_, ?_, ?_, ?_⟩ <;> cases c.state <;> simp

theorem codeSent_rejecting {c : ChanRecord} (h : c.state = .rejecting) :
    (c.reject = some .busy → codeSent c = .busy) ∧ (c.reject = some .vacant → codeSent c = .vacant) := by
  refine ⟨fun hr => ?_, fun hr => ?_⟩ <;> simp only [codeSent, h, hr]

theorem codeSent_gap {c : ChanRecord} (h : c.state = .sending) (hphase : c.sendPhase = .gap) : codeSent c = .seize := by
  simp only [codeSent, h, hphase]

theorem codeSent_digit {c : ChanRecord} (h : c.state = .sending) (hphase : c.sendPhase = .digit)
    (hpos : c.sendPosition < c.sendList.length) : codeSent c = .digit c.sendList[c.sendPosition] := by
  simp only [codeSent, h, hphase, List.getD_eq_getElem _ _ hpos]

/-- Settles O13: the drive pattern, the channel listen source and the code sent, each by its state. -/
theorem driveAndChannelReadsByState : Obligations.DriveAndChannelReadsByState := by
  refine ⟨?drive, ?channel⟩
  case drive =>
    intro s n hlive hidle l served
    have serves {i : Fin 5} {pattern : Nat} (h : s.part.drivePattern n = i) (hpattern : i.val = pattern) :
        served pattern := by
      subst hpattern
      exact exec_lineDriveRead hlive hidle h
    refine ⟨fun h => serves (Part.drivePattern_outOfService h) rfl, fun h => serves (Part.drivePattern_quiet h) rfl,
      fun c h hslot hon => ?rings, fun c h hslot hoff => serves (Part.drivePattern_silentRing h ?silent) rfl,
      fun h hslot => serves (Part.drivePattern_silentRing h (Part.ringing_noSlot hslot)) rfl, fun h => ?talk,
      fun h => ?lockout⟩
    case rings =>
      obtain ⟨ha, hb⟩ := Part.drivePattern_rings h ((Part.ringing_slot hslot).trans hon)
      cases hpattern : l.profile.ringPattern with
      | a => exact serves (ha hpattern) rfl
      | b => exact serves (hb hpattern) rfl
    case silent => exact (Part.ringing_slot hslot).trans hoff
    case talk => exact serves (Part.drivePattern_talk h) (apply_ite Fin.val _ _ _)
    case lockout => exact serves (Part.drivePattern_lockout h) (apply_ite Fin.val _ _ _)
  case channel =>
    intro s k hlive hidle c heard sent
    have hears {source : Nat} (h : s.part.chanListenSource k = source) : heard source := by
      subst h
      exact exec_channelListenRead k hlive hidle
    have sends {x : SignalCode} {code : Nat} (h : codeSent c = x) (hcode : x.toCode.val = code) : sent code := by
      subst hcode
      exact exec_signalOutRead hlive hidle h
    obtain ⟨hblocked, hidles, hseizing, hawait, hincoming, hringing, htalk, hclearing⟩ := codeSent_byState c
    exact ⟨fun m h hm => hears (Part.chanListenSource_joined h hm), fun h => hears (Part.chanListenSource_silent h),
      fun h => sends (hblocked h) rfl, fun h => sends (hidles h) rfl, fun h => sends (hseizing h) rfl,
      fun h => sends (hawait h) rfl, fun h => sends (hincoming h) rfl, fun h => sends (hringing h) rfl,
      fun h => sends (htalk h) rfl, fun h => sends (hclearing h) rfl,
      fun h hbusy => sends ((codeSent_rejecting h).1 hbusy) rfl, fun h hvacant => sends ((codeSent_rejecting h).2 hvacant) rfl,
      fun h hgap => sends (codeSent_gap h hgap) rfl, fun hpos h hdigit => sends (codeSent_digit h hdigit hpos) rfl⟩

end Sys2Proof.Machine
end

section
/-! Partnerships and teardowns of lines (R22, R37, R43), and then the statement about them. -/

namespace Sys2Proof.Machine

/-! ## Breaking a partnership (R22) -/

theorem Part.setPartner_self (p : Part) (n : Line) (x : Option Partner) (r : Option Role) :
    (p.setPartner n x r).lines[n] = p.lines[n].joined x r := getElem_set_fin_same ..

theorem Part.setPartner_ne (p : Part) {n m : Line} (x : Option Partner) (r : Option Role) (h : m ≠ n) :
    (p.setPartner n x r).lines[m] = p.lines[m] := by
  rw [Part.setPartner, Part.setLine_lines, getElem_set_fin, if_neg h.symm]

theorem Part.setChanPartner_self (p : Part) (k : Chan) (x : Option Line) :
    (p.setChanPartner k x).chans[k] = { p.chans[k] with partner := x } := getElem_set_fin_same ..

theorem Part.breakLine_line {p : Part} {n m : Line} (h : p.lines[n].partner = some (.line m)) :
    p.breakLine n = (p.setPartner n none none).setPartner m none none := by
  simp only [Part.breakLine, h]

theorem Part.breakLine_chan {p : Part} {n : Line} {k : Chan} (h : p.lines[n].partner = some (.chan k)) :
    p.breakLine n = (p.setPartner n none none).setChanPartner k none := by
  simp only [Part.breakLine, h]

theorem Part.breakChan_line {p : Part} {k : Chan} {n : Line} (h : p.chans[k].partner = some n) :
    p.breakChan k = (p.setPartner n none none).setChanPartner k none := by
  simp only [Part.breakChan, h]

/-- A line alone: no partner, no role. -/
def LineRecord.single (l : LineRecord) : Prop := l.partner = none ∧ l.role = none

theorem Part.setPartner_single (p : Part) (n : Line) : ((p.setPartner n none none).lines[n]).single := by
  rw [Part.setPartner_self]
  exact ⟨rfl, rfl⟩

/-- Breaking a line's partnership with a line leaves both lines alone, even were they one. -/
theorem Part.breakLine_line_single {p : Part} {n m : Line} (h : p.lines[n].partner = some (.line m)) :
    ((p.breakLine n).lines[n]).single ∧ ((p.breakLine n).lines[m]).single := by
  rw [Part.breakLine_line h]
  refine ⟨?_, Part.setPartner_single ..⟩
  by_cases hnm : n = m
  · subst hnm
    exact Part.setPartner_single ..
  · rw [Part.setPartner_ne _ _ _ hnm]
    exact Part.setPartner_single ..

theorem Part.breakLine_line_ne {p : Part} {n m x : Line} (h : p.lines[n].partner = some (.line m)) (hn : x ≠ n)
    (hm : x ≠ m) : (p.breakLine n).lines[x] = p.lines[x] := by
  rw [Part.breakLine_line h, Part.setPartner_ne _ _ _ hm, Part.setPartner_ne _ _ _ hn]

/-- Parting a line and a channel takes partner and role from the line and the partner from the channel. -/
theorem Part.parted (p : Part) (n : Line) (k : Chan) :
    (((p.setPartner n none none).setChanPartner k none).lines[n]).single ∧
      (((p.setPartner n none none).setChanPartner k none).chans[k]).partner = none :=
  ⟨Part.setPartner_single p n, by rw [Part.setChanPartner_self]⟩

/-! ## Teardown of a line (R37, R43) -/

/-- R37: the state a torn down line goes to by its debounced loop. -/
def Part.hangUp (p : Part) (n : Line) (cause : Cause) : Part :=
  if p.sup[n].loop = .closed then p.enterLine n .cleardown (some cause) else p.enterLine n .idle

section DropLine

variable {p : Part} {n : Line} (cause : Cause)

theorem Part.hangUp_closed (h : p.sup[n].loop = .closed) : p.hangUp n cause = p.enterLine n .cleardown (some cause) :=
  if_pos h

theorem Part.hangUp_opened (h : p.sup[n].loop = .opened) : p.hangUp n cause = p.enterLine n .idle :=
  if_neg (by rw [h]; decide)

theorem Part.dropLine_alerting (h : p.lines[n].state = .alerting) :
    p.dropLine n cause = (p.alertCancel n).enterLine n .idle := by
  simp only [Part.dropLine, h]

theorem Part.dropLine_queued (h : p.lines[n].state = .queued) :
    p.dropLine n cause = (p.setWaiter n none).hangUp n cause := by
  cases hloop : p.sup[n].loop with
  | closed =>
    rw [Part.hangUp_closed (p := p.setWaiter n none) cause hloop]
    simp only [Part.dropLine, h, Part.setWaiter_sup, hloop]
  | opened =>
    rw [Part.hangUp_opened (p := p.setWaiter n none) cause hloop]
    simp only [Part.dropLine, h, Part.setWaiter_sup, hloop]

theorem Part.dropLine_connected
    (h : p.lines[n].state = .dialing ∨ p.lines[n].state = .trunkSetup ∨ p.lines[n].state = .localCalling ∨
      p.lines[n].state = .talk) : p.dropLine n cause = p.hangUp n cause := by
  cases hloop : p.sup[n].loop with
  | closed => rw [Part.hangUp_closed cause hloop]; rcases h with h | h | h | h <;> simp only [Part.dropLine, h, hloop]
  | opened => rw [Part.hangUp_opened cause hloop]; rcases h with h | h | h | h <;> simp only [Part.dropLine, h, hloop]

theorem Part.dropLine_noCall
    (h : p.lines[n].state = .idle ∨ p.lines[n].state = .cleardown ∨ p.lines[n].state = .lockout ∨
      p.lines[n].state = .outOfService) : p.dropLine n cause = p := by
  rcases h with h | h | h | h <;> simp only [Part.dropLine, h]

end DropLine

/-- Settles O30: the partnerships by the records they are on, the teardown by state, loop and partner. -/
theorem teardownByStateAndLoop : Obligations.TeardownByStateAndLoop := by
  refine ⟨fun p n m h => ?lines, fun p n k h => ?lineChan, fun p n k h => ?chanLine, ?teardown⟩
  case lines =>
    obtain ⟨⟨hpartner, hrole⟩, hpartner', hrole'⟩ := Part.breakLine_line_single h
    exact ⟨hpartner, hpartner', hrole, hrole', fun x hn hm => Part.breakLine_line_ne h hn hm⟩
  case lineChan =>
    rw [Part.breakLine_chan h]
    obtain ⟨⟨hpartner, hrole⟩, hchan⟩ := p.parted n k
    exact ⟨hpartner, hrole, hchan⟩
  case chanLine =>
    rw [Part.breakChan_line h]
    obtain ⟨⟨hpartner, hrole⟩, hchan⟩ := p.parted n k
    exact ⟨hpartner, hrole, hchan⟩
  case teardown =>
    intro p n cause state byLoop
    exact ⟨Part.dropLine_alerting cause, Part.dropLine_queued cause, Part.dropLine_connected cause,
      Part.dropLine_noCall cause, fun h => by simp only [Part.tearDown, h], fun m h => by simp only [Part.tearDown, h],
      fun k h => by simp only [Part.tearDown, h]⟩

end Sys2Proof.Machine
end

section
/-! What the line supervisor hands to the line controller: the taking of an event, the origination, the answer and the
abandonment, and then the statements about OFF_HOOK and ON_HOOK (R15, R23, R29, R34 to R36). -/

namespace Sys2Proof.Machine

/-! ## Taking an event (R15, R41) -/

theorem Part.isRunning_running {p : Part} (h : p.cmd.mode = .running) : p.isRunning = true := by rw [Part.isRunning, h]; rfl

theorem Part.isRunning_halted {p : Part} (h : p.cmd.mode = .halted) : p.isRunning = false := by rw [Part.isRunning, h]; rfl

section TakeEvent

variable {s : State} {n : Line} {e : LineEvent} {act : Part → Part}

/-- An event handed for a line, in RUNNING: the line controller acts on it. -/
theorem State.eventIf_handed_running (hlive : s.live) (hhead : s.part.sup[n].handed.head? = some e)
    (hmode : s.part.cmd.mode = .running) {q : Part} (hq : act (s.part.eventTaken n) = q) :
    s.eventIf (·.handedIs n e) (fun p => p.takeEvent n act) = s.after q := by
  subst hq
  have hdue : s.part.handedIs n e = true := by rw [Part.handedIs, hhead, beq_self_eq_true]
  refine (State.eventIf_after (due := (·.handedIs n e)) hlive hdue).trans (congrArg _ ?_)
  exact if_pos (Part.isRunning_running hmode)

/-- The event is taken and nothing else happens: in HALTED, and where the line controller does not act on it. -/
theorem State.eventIf_handed_idle (hlive : s.live) (hhead : s.part.sup[n].handed.head? = some e)
    (h : s.part.cmd.mode = .halted ∨ act (s.part.eventTaken n) = s.part.eventTaken n) :
    s.eventIf (·.handedIs n e) (fun p => p.takeEvent n act) = s.after (s.part.eventTaken n) := by
  cases hmode : s.part.cmd.mode with
  | running => exact State.eventIf_handed_running hlive hhead hmode (h.resolve_left (by rw [hmode]; decide))
  | halted =>
    have hdue : s.part.handedIs n e = true := by rw [Part.handedIs, hhead, beq_self_eq_true]
    refine (State.eventIf_after (due := (·.handedIs n e)) hlive hdue).trans (congrArg _ ?_)
    exact if_neg (by rw [Part.isRunning_halted hmode]; decide)

end TakeEvent

@[simp] theorem Part.eventTaken_lines (p : Part) (n : Line) : (p.eventTaken n).lines = p.lines := rfl
@[simp] theorem Part.eventTaken_chans (p : Part) (n : Line) : (p.eventTaken n).chans = p.chans := rfl

/-! ## Origination (R23) -/

section Originate

variable {p : Part} {n : Line}

theorem Part.originate_clearing (h : p.clearing = true) : p.originate n = p.enterLine n .cleardown (some .congestion) :=
  if_pos h

theorem Part.originate_dials (h : p.clearing = false)
    (hhot : p.lines[n].profile.hotline = none ∨ p.lines[n].profile.hotlineDelay ≠ 0) :
    p.originate n = p.enterLine n .dialing := by
  unfold Part.originate
  rw [if_neg (by rw [h]; decide)]
  cases hline : p.lines[n].profile.hotline with
  | none => simp only [hline]
  | some d =>
    simp only [hline]
    exact if_neg (hhot.resolve_left (by rw [hline]; nofun))

theorem Part.originate_hotline {d : EntryIx} (h : p.clearing = false) (hline : p.lines[n].profile.hotline = some d)
    (hdelay : p.lines[n].profile.hotlineDelay = 0) : p.originate n = (p.enterLine n .dialing).routeHotline n d := by
  unfold Part.originate
  rw [if_neg (by rw [h]; decide)]
  simp only [hline, hdelay, if_true]

theorem Part.offHook_idle (h : p.lines[n].state = .idle) : p.offHook n = p.originate n := by
  simp only [Part.offHook, h]

theorem Part.offHook_alerting (h : p.lines[n].state = .alerting) : p.offHook n = p.answer n := by
  simp only [Part.offHook, h]

theorem Part.offHook_ignored (hidle : p.lines[n].state ≠ .idle) (halerting : p.lines[n].state ≠ .alerting) :
    p.offHook n = p := by
  cases hst : p.lines[n].state with
  | idle => exact absurd hst hidle
  | alerting => exact absurd hst halerting
  | _ => simp only [Part.offHook, hst]

end Originate

theorem exec_offHook_running {s : State} {n : Line} {q : Part} (hlive : s.live)
    (hhead : s.part.sup[n].handed.head? = some .offHook) (hmode : s.part.cmd.mode = .running)
    (hq : (s.part.eventTaken n).offHook n = q) : exec (.offHook n) s = .next (s.after q) :=
  congrArg _ (State.eventIf_handed_running (act := (·.offHook n)) hlive hhead hmode hq)

/-- Settles O20, by CLEAR-CALLS and the hotline of the profile. -/
theorem offHookOriginates : Obligations.OffHookOriginates := by
  refine ⟨?idle, fun s n hlive hhead hignored => ?ignored⟩
  case idle =>
    intro s n hlive hhead hmode hst p gives
    have originates {q : Part} (h : p.originate n = q) : gives q :=
      exec_offHook_running hlive hhead hmode ((Part.offHook_idle (p := p) hst).trans h)
    exact ⟨fun hclear => originates (Part.originate_clearing hclear),
      fun hclear hnone => originates (Part.originate_dials hclear (.inl hnone)),
      fun d hclear _ hdelay => originates (Part.originate_dials hclear (.inr hdelay)),
      fun d hclear hline hdelay => originates (Part.originate_hotline hclear hline hdelay)⟩
  case ignored =>
    refine congrArg _ (State.eventIf_handed_idle (act := (·.offHook n)) hlive hhead (hignored.imp_right fun h => ?_))
    exact Part.offHook_ignored h.1 h.2

/-! ## The answer (R29, R34, R141) -/

/-- What an alert cancel makes of the ring depends on the ring and the effective budget alone. -/
theorem Part.alertCancel_ring_congr {p q : Part} (n : Line) (hring : p.ring = q.ring) (hsupply : p.supply = q.supply)
    (hgen : p.gen = q.gen) : (p.alertCancel n).ring = (q.alertCancel n).ring := by
  unfold Part.alertCancel Part.grantSlots Part.effectiveBudget
  simp only [hring, hsupply, hgen]
  split <;> rfl

/-- The record of a line that goes to TALK in an answer: answered-as-caller is set from the role. -/
def LineRecord.talking (l : LineRecord) : LineRecord := (l.answered (l.role == some .caller)).enter .talk none false

@[simp] theorem LineRecord.talking_state (l : LineRecord) : l.talking.state = .talk := rfl

@[simp] theorem LineRecord.talking_partner (l : LineRecord) : l.talking.partner = l.partner := rfl

theorem LineRecord.talking_answered (l : LineRecord) : l.talking.answeredAsCaller = true ↔ l.role = some .caller :=
  beq_iff_eq

section Answer

variable {p : Part} {n : Line}

theorem Part.markAnswered_self (p : Part) (n : Line) :
    (p.markAnswered n).lines[n] = p.lines[n].answered (p.lines[n].role == some .caller) := getElem_set_fin_same ..

theorem Part.markAnswered_ne (p : Part) {n m : Line} (h : m ≠ n) : (p.markAnswered n).lines[m] = p.lines[m] := by
  rw [Part.markAnswered, Part.setLine_lines, getElem_set_fin, if_neg h.symm]

theorem Part.answer_line {m : Line} (h : p.lines[n].partner = some (.line m)) :
    p.answer n = ((((p.markAnswered m).markAnswered n).enterLine m .talk).enterLine n .talk).alertCancel n := by
  simp only [Part.answer, h]

theorem Part.answer_chan {k : Chan} (h : p.lines[n].partner = some (.chan k)) (hk : p.chans[k].state = .ringingIn) :
    p.answer n = (((p.markAnswered n).enterLine n .talk).alertCancel n).enterChan k .talk := by
  have hk' : (((p.markAnswered n).enterLine n .talk).alertCancel n).chans[k].state = .ringingIn := by
    rw [Part.alertCancel_chans, Part.enterLine_chans]
    exact hk
  simp only [Part.answer, h]
  exact if_pos hk'

/-- R29: of a local call the records of both lines follow their roles, and no other changes. -/
theorem Part.answer_line_lines {m : Line} (hm : m ≠ n) (h : p.lines[n].partner = some (.line m)) :
    (p.answer n).lines[n] = p.lines[n].talking ∧ (p.answer n).lines[m] = p.lines[m].talking ∧
      ∀ x : Line, x ≠ n → x ≠ m → (p.answer n).lines[x] = p.lines[x] := by
  rw [Part.answer_line h, Part.alertCancel_lines]
  refine ⟨?_, ?_, fun x hxn hxm => ?_⟩
  · rw [Part.enterLine_self, Part.enterLine_ne _ _ _ _ hm.symm, Part.markAnswered_self, Part.markAnswered_ne _ hm.symm]
    rfl
  · rw [Part.enterLine_ne _ _ _ _ hm, Part.enterLine_self, Part.markAnswered_ne _ hm, Part.markAnswered_self]
    rfl
  · rw [Part.enterLine_ne _ _ _ _ hxn, Part.enterLine_ne _ _ _ _ hxm, Part.markAnswered_ne _ hxn,
      Part.markAnswered_ne _ hxm]

/-- R34: of an incoming call the line's record follows its role, and no other changes. -/
theorem Part.answer_chan_lines {k : Chan} (h : p.lines[n].partner = some (.chan k))
    (hk : p.chans[k].state = .ringingIn) :
    (p.answer n).lines[n] = p.lines[n].talking ∧ ∀ x : Line, x ≠ n → (p.answer n).lines[x] = p.lines[x] := by
  rw [Part.answer_chan h hk, Part.enterChan_lines, Part.alertCancel_lines]
  refine ⟨?_, fun x hx => ?_⟩
  · rw [Part.enterLine_self, Part.markAnswered_self]
    rfl
  · rw [Part.enterLine_ne _ _ _ _ hx, Part.markAnswered_ne _ hx]

/-- R100: the channel of an answered incoming call goes to TALK with its partner, and no other changes. -/
theorem Part.answer_chan_chans {k : Chan} (h : p.lines[n].partner = some (.chan k))
    (hk : p.chans[k].state = .ringingIn) :
    (p.answer n).chans[k].state = .talk ∧ (p.answer n).chans[k].partner = p.chans[k].partner ∧
      ∀ j : Chan, j ≠ k → (p.answer n).chans[j] = p.chans[j] := by
  have hdest : (p.chans[k].enter .talk none).state = .talk ∧ (p.chans[k].enter .talk none).partner = p.chans[k].partner := by
    have hd : p.chans[k].destination .talk = .talk := by simp [ChanRecord.destination]
    unfold ChanRecord.enter
    rw [hd]
    exact ⟨rfl, rfl⟩
  have hchans : (p.answer n).chans = p.chans.set k.val (p.chans[k].enter .talk none) := by
    rw [Part.answer_chan h hk, Part.enterChan_chans, Part.alertCancel_chans, Part.enterLine_chans]
    rfl
  rw [hchans, getElem_set_fin_same]
  exact ⟨hdest.1, hdest.2, fun j hj => by rw [getElem_set_fin, if_neg hj.symm]⟩

/-- R135, R141: the answer gives up the ring slot or queue place and the alert limit. -/
theorem Part.answer_line_ring {m : Line} (h : p.lines[n].partner = some (.line m)) :
    (p.answer n).ring = (p.alertCancel n).ring := by
  rw [Part.answer_line h]
  exact Part.alertCancel_ring_congr n (by simp [Part.markAnswered]) (by simp [Part.markAnswered])
    (by simp [Part.markAnswered])

theorem Part.answer_chan_ring {k : Chan} (h : p.lines[n].partner = some (.chan k)) (hk : p.chans[k].state = .ringingIn) :
    (p.answer n).ring = (p.alertCancel n).ring := by
  rw [Part.answer_chan h hk, Part.enterChan_ring]
  exact Part.alertCancel_ring_congr n (by simp [Part.markAnswered]) (by simp [Part.markAnswered])
    (by simp [Part.markAnswered])

/-- A local answer changes nothing of the channels, the allocator and the link. -/
theorem Part.answer_line_frame {m : Line} (h : p.lines[n].partner = some (.line m)) :
    (p.answer n).chans = p.chans ∧ (p.answer n).alloc = p.alloc ∧ (p.answer n).link = p.link := by
  rw [Part.answer_line h]
  simp [Part.markAnswered]

theorem Part.answer_sup (p : Part) (n : Line) : (p.answer n).sup = p.sup :=
  congrArg Fixed.sup (Part.answer_fixed p n)

end Answer

/-- Settles O21, by the partner of the line that answers. -/
theorem offHookAnswers : Obligations.OffHookAnswers := by
  intro s n hlive hhead hmode hst
  set p := s.part.eventTaken n
  have hexec : exec (.offHook n) s = .next (s.after (p.answer n)) :=
    exec_offHook_running hlive hhead hmode (Part.offHook_alerting hst)
  have hsup : (p.answer n).sup = p.sup := Part.answer_sup p n
  refine ⟨fun m hm hpartner => ⟨_, hexec, ?_⟩, fun k hpartner hrole hk => ⟨_, hexec, ?_⟩⟩
  · obtain ⟨hn, hm', hrest⟩ := Part.answer_line_lines (p := p) hm hpartner
    obtain ⟨hchans, halloc, hlink⟩ := Part.answer_line_frame (p := p) hpartner
    have hring := Part.answer_line_ring (p := p) hpartner
    simp only [State.after_part, Part.settled_lines, Part.settled_chans, Part.settled_alloc, Part.settled_link,
      Part.settled_sup, Part.settled_ring, hn, hm', hchans, halloc, hlink, hsup, hring]
    exact ⟨rfl, rfl, rfl, rfl, LineRecord.talking_answered _, LineRecord.talking_answered _, trivial, hrest, rfl, rfl, rfl,
      trivial, fun _ => rfl, rfl⟩
  · obtain ⟨hn, hrest⟩ := Part.answer_chan_lines (p := p) hpartner hk
    obtain ⟨hstate, hkeeps, hothers⟩ := Part.answer_chan_chans (p := p) hpartner hk
    have hring := Part.answer_chan_ring (p := p) hpartner hk
    have hcalled : p.lines[n].talking.answeredAsCaller = false := by
      rw [Bool.eq_false_iff, ne_eq, LineRecord.talking_answered]
      exact fun h => nomatch hrole.symm.trans h
    simp only [State.after_part, Part.settled_lines, Part.settled_chans, Part.settled_sup, Part.settled_ring, hn, hsup,
      hring]
    exact ⟨rfl, hpartner, hcalled, hstate, hkeeps, trivial, hrest, hothers, trivial, fun _ => rfl, rfl⟩

/-! ## Abandonment (R35, R36, Table 2-5) -/

section Abandon

variable {p : Part} {n : Line}

/-- The states in which abandonment has nothing to undo for others. -/
theorem Part.abandon_alone
    (h : p.lines[n].state = .idle ∨ p.lines[n].state = .dialing ∨ p.lines[n].state = .cleardown ∨
      p.lines[n].state = .lockout ∨ p.lines[n].state = .outOfService) : p.abandon n = p := by
  unfold Part.abandon
  rcases h with h | h | h | h | h <;> simp only [h]

theorem Part.abandon_queued (h : p.lines[n].state = .queued) : p.abandon n = p.setWaiter n none := by
  simp only [Part.abandon, h]

/-- A line that calls or talks over a channel. -/
theorem Part.abandon_trunk {k : Chan} (h : p.lines[n].state = .trunkSetup ∨ p.lines[n].state = .talk)
    (hk : p.lines[n].partner = some (.chan k)) : p.abandon n = p.clearChan k := by
  unfold Part.abandon
  rcases h with h | h <;> simp only [h, hk]

theorem Part.abandon_localCalling {m : Line} (h : p.lines[n].state = .localCalling)
    (hm : p.lines[n].partner = some (.line m)) :
    p.abandon n = ((p.breakLine n).alertCancel m).enterLine m .idle := by
  simp only [Part.abandon, h, hm]

theorem Part.abandon_talk {m : Line} (h : p.lines[n].state = .talk) (hm : p.lines[n].partner = some (.line m)) :
    p.abandon n = (p.breakLine n).dropLine m .busy := by
  simp only [Part.abandon, h, hm]

theorem Part.abandon_alerting_line {m : Line} (h : p.lines[n].state = .alerting)
    (hm : p.lines[n].partner = some (.line m)) :
    p.abandon n = ((p.alertCancel n).breakLine n).dropLine m .busy := by
  simp only [Part.abandon, h, hm]

theorem Part.abandon_alerting_chan {k : Chan} (h : p.lines[n].state = .alerting)
    (hk : p.lines[n].partner = some (.chan k)) : p.abandon n = (p.alertCancel n).clearChan k := by
  simp only [Part.abandon, h, hk]

/-- R36: the states in which ON-HOOK has no effect. -/
theorem Part.onHook_ignored
    (h : p.lines[n].state = .idle ∨ p.lines[n].state = .alerting ∨ p.lines[n].state = .outOfService) :
    p.onHook n = p := by
  unfold Part.onHook
  rcases h with h | h | h <;> simp only [h]

/-- R36: elsewhere the call is abandoned and the line goes to IDLE. -/
theorem Part.onHook_abandons (hidle : p.lines[n].state ≠ .idle) (halerting : p.lines[n].state ≠ .alerting)
    (hout : p.lines[n].state ≠ .outOfService) : p.onHook n = (p.abandon n).enterLine n .idle := by
  cases hst : p.lines[n].state with
  | idle => exact absurd hst hidle
  | alerting => exact absurd hst halerting
  | outOfService => exact absurd hst hout
  | _ => simp only [Part.onHook, hst]

end Abandon

/-- Settles O22: ON_HOOK is the abandonment and then IDLE, and the abandonment is Table 2-5. -/
theorem onHookAbandonsTheCall : Obligations.OnHookAbandonsTheCall := by
  refine ⟨?onHook, ?abandon⟩
  case onHook =>
    intro s n hlive hhead p state partner gives
    refine ⟨fun hignored => ?_, fun hmode => ?_⟩
    · exact congrArg _ (State.eventIf_handed_idle (act := (·.onHook n)) hlive hhead (hignored.imp_right Part.onHook_ignored))
    · have abandons {q : Part} (hq : p.abandon n = q)
          (hst : state ≠ .idle ∧ state ≠ .alerting ∧ state ≠ .outOfService) : gives (q.enterLine n .idle) := by
        subst hq
        obtain ⟨hidle, halerting, hout⟩ := hst
        exact congrArg _ (State.eventIf_handed_running (act := (·.onHook n)) hlive hhead hmode
          (Part.onHook_abandons hidle halerting hout))
      refine ⟨fun h => abandons (Part.abandon_alone (p := p) ?_) ?_, fun h => abandons (Part.abandon_queued (p := p) h) ?_,
        fun k h hk => abandons (Part.abandon_trunk (p := p) (.inl h) hk) ?_,
        fun m h hm => abandons (Part.abandon_localCalling (p := p) h hm) ?_,
        fun m h hm => abandons (Part.abandon_talk (p := p) h hm) ?_,
        fun k h hk => abandons (Part.abandon_trunk (p := p) (.inr h) hk) ?_⟩
      · exact .inr (h.imp_right (.imp_right .inl))
      · rcases h with h | h | h <;> rw [h] <;> decide
      all_goals rw [h]; decide
  case abandon =>
    intro p n state partner
    exact ⟨Part.abandon_alone, Part.abandon_queued, fun k h => Part.abandon_trunk (.inl h),
      fun m => Part.abandon_localCalling, fun m => Part.abandon_alerting_line, fun k => Part.abandon_alerting_chan,
      fun m => Part.abandon_talk, fun k h => Part.abandon_trunk (.inr h)⟩

end Sys2Proof.Machine
end

section
/-! Dialling: the local route, the verdicts and the line's timers, and then the statements about them (R24 to R28, R31, R38,
R59). -/

namespace Sys2Proof.Machine

/-! ## A local route (R28) -/

/-- What an alert request makes of the ring depends on the ring and the effective budget alone. -/
theorem Part.alertRequest_ring_congr {p q : Part} (n : Line) (hring : p.ring = q.ring) (hsupply : p.supply = q.supply)
    (hgen : p.gen = q.gen) : (p.alertRequest n).ring = (q.alertRequest n).ring := by
  have hbudget : p.effectiveBudget = q.effectiveBudget := by simp only [Part.effectiveBudget, hsupply, hgen]
  unfold Part.alertRequest
  simp only [hring, hbudget]
  split
  · exact hring
  · split <;> rfl

section RouteLocal

variable {p : Part} {n target : Line}

theorem Part.routeLocal_clearing (h : p.clearing = true) : p.routeLocal n target = p.dropLine n .congestion := if_pos h

theorem Part.routeLocal_busy (h : p.clearing = false) (hbusy : target = n ∨ p.lines[target].state ≠ .idle) :
    p.routeLocal n target = p.enterLine n .cleardown (some .busy) := by
  unfold Part.routeLocal
  rw [if_neg (by rw [h]; decide), if_neg fun ⟨hne, hidle⟩ => hbusy.elim hne (· hidle)]

theorem Part.routeLocal_rings (h : p.clearing = false) (hne : target ≠ n) (hidle : p.lines[target].state = .idle) :
    p.routeLocal n target =
      ((((p.setPartner n (some (.line target)) (some .caller)).setPartner target (some (.line n)) (some .called)).enterLine
        n .localCalling).enterLine target .alerting).alertRequest target := by
  unfold Part.routeLocal
  rw [if_neg (by rw [h]; decide), if_pos ⟨hne, hidle⟩]

/-- The two records of a local call, and that it changes no other. -/
theorem Part.routeLocal_lines (h : p.clearing = false) (hne : target ≠ n) (hidle : p.lines[target].state = .idle) :
    (p.routeLocal n target).lines[n] =
        (p.lines[n].joined (some (.line target)) (some .caller)).enter .localCalling none false ∧
      (p.routeLocal n target).lines[target] =
        (p.lines[target].joined (some (.line n)) (some .called)).enter .alerting none false ∧
      ∀ x : Line, x ≠ n → x ≠ target → (p.routeLocal n target).lines[x] = p.lines[x] := by
  rw [Part.routeLocal_rings h hne hidle, Part.alertRequest_lines]
  refine ⟨?_, ?_, fun x hn ht => ?_⟩
  · rw [Part.enterLine_ne _ _ _ _ hne.symm, Part.enterLine_self, Part.setPartner_ne _ _ _ hne.symm, Part.setPartner_self]
  · rw [Part.enterLine_self, Part.enterLine_ne _ _ _ _ hne, Part.setPartner_self, Part.setPartner_ne _ _ _ hne]
  · rw [Part.enterLine_ne _ _ _ _ ht, Part.enterLine_ne _ _ _ _ hn, Part.setPartner_ne _ _ _ ht,
      Part.setPartner_ne _ _ _ hn]

theorem Part.routeLocal_ring (h : p.clearing = false) (hne : target ≠ n) (hidle : p.lines[target].state = .idle) :
    (p.routeLocal n target).ring = (p.alertRequest target).ring := by
  rw [Part.routeLocal_rings h hne hidle]
  exact Part.alertRequest_ring_congr target (by simp) (by simp) (by simp)

theorem Part.routeLocal_frame (h : p.clearing = false) (hne : target ≠ n) (hidle : p.lines[target].state = .idle) :
    (p.routeLocal n target).chans = p.chans ∧ (p.routeLocal n target).alloc = p.alloc ∧
      (p.routeLocal n target).sup = p.sup := by
  rw [Part.routeLocal_rings h hne hidle]
  simp

end RouteLocal

/-- Settles O24, by CLEAR-CALLS and the state of the target. -/
theorem localCallRingsAnIdleTarget : Obligations.LocalCallRingsAnIdleTarget := by
  intro p n target
  refine ⟨Part.routeLocal_clearing, Part.routeLocal_busy, ?_⟩
  intro hclear hne hidle q
  obtain ⟨hn, ht, hothers⟩ := Part.routeLocal_lines hclear hne hidle
  obtain ⟨hchans, halloc, hsup⟩ := Part.routeLocal_frame hclear hne hidle
  have hring := Part.routeLocal_ring hclear hne hidle
  rw [show q.lines[n] = _ from hn, show q.lines[target] = _ from ht]
  exact ⟨rfl, rfl, rfl, rfl, rfl, rfl, hring, hchans, halloc, hsup, hothers⟩

/-! ## Acting on a verdict (R25, R28, R31) -/

theorem Part.setLine_self (p : Part) (n : Line) (l : LineRecord) : (p.setLine n l).lines[n] = l := getElem_set_fin_same ..

theorem Part.setLine_setLine (p : Part) (n : Line) (l l' : LineRecord) : (p.setLine n l).setLine n l' = p.setLine n l' := by
  simp only [Part.setLine, Vector.set_set]

section ActOn

variable {p : Part} {n : Line} {l : LineRecord} (h : p.lines[n] = l) (route : Option Route)
include h

theorem Part.actOn_needMore :
    p.actOn n route .needMore = p.setLine n { l with route := route, timer := ⟨true, 0, false⟩, limit := .interDigit } := by
  subst h
  simp only [Part.actOn, Part.setLine_self, Part.setLine_setLine]
  rfl

theorem Part.actOn_refuse (c : Cause) :
    p.actOn n route (.refuse c) = (p.setLine n { l with route := route }).enterLine n .cleardown (some c) := by
  subst h
  rfl

theorem Part.actOn_routeTrunk (r : Route) :
    p.actOn n (some r) .routeTrunk =
      (((p.setLine n { l with route := some r }).handCallRouted n r).enterLine n .queued).enqueue n false := by
  subst h
  rfl

theorem Part.actOn_routeStationLocal (r : Route) (target : Line) :
    p.actOn n (some r) (.routeStationLocal target) =
      ((p.setLine n { l with route := some r }).handCallRouted n r).routeLocal n target := by
  subst h
  rfl

end ActOn

/-! ## DIGIT (R24) -/

theorem Part.dialDigit_ignored {p : Part} {n : Line} (d : Digit) (h : p.lines[n].state ≠ .dialing) : p.dialDigit n d = p :=
  if_neg h

/-- In DIALING the digit joins the buffer, the tone is judged, and the verdict of the lookup is acted on. -/
theorem Part.dialDigit_dialing {p : Part} {n : Line} (d : Digit) {route : Option Route} {verdict : Verdict}
    (h : p.lines[n].state = .dialing)
    (hlookup : ((p.setLine n (p.lines[n].dialled d)).judgeTone n).lookup n (p.lines[n].dialled d).digits =
      (route, verdict)) :
    p.dialDigit n d = ((p.setLine n (p.lines[n].dialled d)).judgeTone n).actOn n route verdict := by
  unfold Part.dialDigit
  rw [if_pos h]
  simp only [hlookup]

/-- Settles O23, by the verdict of the lookup. -/
theorem digitIsAppendedAndJudged : Obligations.DigitIsAppendedAndJudged := by
  intro s n d hlive hhead p gives
  refine ⟨fun hignored => ?ignored, ?dialling⟩
  case ignored =>
    exact congrArg _ (State.eventIf_handed_idle (act := (·.dialDigit n d)) hlive hhead
      (hignored.imp_right (Part.dialDigit_ignored d)))
  case dialling =>
    intro hmode hst dialled q route verdict hlookup stored
    have acts {t : Part} (ht : q.actOn n route verdict = t) : gives t :=
      congrArg _ (State.eventIf_handed_running (act := (·.dialDigit n d)) hlive hhead hmode
        ((Part.dialDigit_dialing (p := p) d hst hlookup).trans ht))
    have hline : q.lines[n] = dialled := by
      rw [Part.judgeTone_lines]
      exact Part.setLine_self ..
    refine ⟨?_, ?_, ?_, ?_⟩
    · rintro rfl
      exact acts (Part.actOn_needMore hline route)
    · rintro c rfl
      exact acts (Part.actOn_refuse hline route c)
    · rintro r rfl rfl
      exact acts (Part.actOn_routeTrunk hline r)
    · rintro r target rfl rfl
      exact acts (Part.actOn_routeStationLocal hline r target)

/-! ## The hotline (R27, R59) -/

/-- R27: the entry's digits replace the buffer, and the verdict of the hotline lookup is acted on. -/
theorem Part.routeHotline_actOn {p : Part} {n : Line} {d : EntryIx} {route : Option Route} {verdict : Verdict}
    (h : (p.setLine n (p.lines[n].withDigits (pfxDigits p.directory[d]))).hotlineLookup n d = (route, verdict)) :
    p.routeHotline n d = (p.setLine n (p.lines[n].withDigits (pfxDigits p.directory[d]))).actOn n route verdict := by
  simp only [Part.routeHotline, h]

/-- R59: an entry that is invalid, or that asks for more digits than its own, refuses. -/
theorem Part.hotlineLookup_unusable {p : Part} (n : Line) {d : EntryIx} (h : p.directory[d].valid = false ∨
    p.directory[d].pfxLength.toNat < p.directory[d].totalLength.toNat) :
    p.hotlineLookup n d = (p.lines[n].route, .refuse .unobtainable) := by
  unfold Part.hotlineLookup
  refine if_pos ?_
  rcases h with h | h
  · rw [h]; rfl
  · rw [decide_eq_true h, Bool.or_true]

/-- R59: any other entry is completed. -/
theorem Part.hotlineLookup_completes {p : Part} (n : Line) {d : EntryIx} (hvalid : p.directory[d].valid = true)
    (hlength : p.directory[d].totalLength.toNat ≤ p.directory[d].pfxLength.toNat) :
    p.hotlineLookup n d =
      (some (p.complete n (p.directory[d].route d) (pfxDigits p.directory[d])).1,
        (p.complete n (p.directory[d].route d) (pfxDigits p.directory[d])).2) := by
  unfold Part.hotlineLookup
  refine if_neg ?_
  rw [hvalid, decide_eq_false (Nat.not_lt.mpr hlength)]
  decide

/-! ## MISDIAL and the timers of DIALING, CLEARDOWN and LOCKOUT (R24, R26, R38) -/

theorem Part.misdial_dialing {p : Part} {n : Line} (h : p.lines[n].state = .dialing) :
    p.misdial n = p.enterLine n .cleardown (some .unobtainable) := if_pos h

theorem Part.misdial_ignored {p : Part} {n : Line} (h : p.lines[n].state ≠ .dialing) : p.misdial n = p := if_neg h

theorem Part.hotlineExpired_none {p : Part} {n : Line} (h : p.lines[n].profile.hotline = none) :
    p.hotlineExpired n = p.enterLine n .cleardown (some .unobtainable) := by
  simp only [Part.hotlineExpired, h]

theorem Part.hotlineExpired_some {p : Part} {n : Line} {d : EntryIx} (h : p.lines[n].profile.hotline = some d) :
    p.hotlineExpired n = p.routeHotline n d := by
  simp only [Part.hotlineExpired, h]

/-- An expiry of the line's state timer stands when the state, the timer and the limit are those of its row. -/
theorem Part.lineTimerDue_of {p : Part} {n : Line} {st : LineState} {limit : LineLimit → Bool} (hst : p.lines[n].state = st)
    (hdue : p.lines[n].timer.due = true) (hlimit : limit p.lines[n].limit = true) : p.lineTimerDue n st limit = true := by
  rw [Part.lineTimerDue, hst, hdue, hlimit, beq_self_eq_true]
  rfl

section Expiry

variable {s : State} {n : Line} (hlive : s.live) (hdue : s.part.lines[n].timer.due = true)
include hlive hdue

theorem exec_firstDigitLimitExpiry (hst : s.part.lines[n].state = .dialing) (hlimit : s.part.lines[n].limit = .firstDigit) :
    exec (.firstDigitLimitExpiry n) s = .next (s.after (s.part.enterLine n .cleardown (some .unobtainable))) :=
  congrArg _ (State.eventIf_after (due := (·.firstDigitDue n)) (act := (·.dialingExpired n)) hlive
    (Part.lineTimerDue_of hst hdue (by rw [hlimit]; rfl)))

theorem exec_interDigitLimitExpiry (hst : s.part.lines[n].state = .dialing) (hlimit : s.part.lines[n].limit = .interDigit) :
    exec (.interDigitLimitExpiry n) s = .next (s.after (s.part.enterLine n .cleardown (some .unobtainable))) :=
  congrArg _ (State.eventIf_after (due := (·.interDigitDue n)) (act := (·.dialingExpired n)) hlive
    (Part.lineTimerDue_of hst hdue (by rw [hlimit]; rfl)))

theorem exec_hotlineDelayExpiry {seconds : Nat} {q : Part} (hst : s.part.lines[n].state = .dialing)
    (hlimit : s.part.lines[n].limit = .hotlineDelay seconds) (hq : s.part.hotlineExpired n = q) :
    exec (.hotlineDelayExpiry n) s = .next (s.after q) := by
  subst hq
  exact congrArg _ (State.eventIf_after (due := (·.hotlineDue n)) (act := (·.hotlineExpired n)) hlive
    (Part.lineTimerDue_of hst hdue (by rw [hlimit]; rfl)))

theorem exec_cleardownLimitExpiry (hst : s.part.lines[n].state = .cleardown) :
    exec (.cleardownLimitExpiry n) s = .next (s.after (s.part.enterLine n .lockout none false)) :=
  congrArg _ (State.eventIf_after (due := (·.cleardownDue n)) (act := (·.cleardownExpired n)) hlive
    (Part.lineTimerDue_of hst hdue rfl))

theorem exec_howlerTimeExpiry (hst : s.part.lines[n].state = .lockout) :
    exec (.howlerTimeExpiry n) s = .next (s.after (s.part.howlerExpired n)) :=
  congrArg _ (State.eventIf_after (due := (·.howlerDue n)) (act := (·.howlerExpired n)) hlive
    (Part.lineTimerDue_of hst hdue rfl))

end Expiry

/-- Settles O27, by the rows, the limits and the verdict of the hotline lookup. -/
theorem dialingEndsOrTheHotlineIsRouted : Obligations.DialingEndsOrTheHotlineIsRouted := by
  refine ⟨fun s n hlive hhead => ?misdial, ?limits, ?hotline⟩
  case misdial =>
    refine ⟨fun hmode hst => congrArg Host.Outcome.next ?_, fun hignored => congrArg Host.Outcome.next ?_⟩
    · exact State.eventIf_handed_running (act := (·.misdial n)) hlive hhead hmode (Part.misdial_dialing hst)
    · exact State.eventIf_handed_idle (act := (·.misdial n)) hlive hhead (hignored.imp_right Part.misdial_ignored)
  case limits =>
    intro s n hlive hst hdue p refused
    refine ⟨exec_firstDigitLimitExpiry hlive hdue hst, exec_interDigitLimitExpiry hlive hdue hst,
      fun seconds hlimit => ⟨fun hnone => ?_, fun d hline => ?_⟩⟩
    · exact exec_hotlineDelayExpiry hlive hdue hst hlimit (Part.hotlineExpired_none hnone)
    · exact exec_hotlineDelayExpiry hlive hdue hst hlimit (Part.hotlineExpired_some hline)
  case hotline =>
    intro p n d route verdict q hlookup stored
    have hacts : p.routeHotline n d = q.actOn n route verdict := Part.routeHotline_actOn hlookup
    refine ⟨fun hunusable => ?_, ?_, ?_, ?_, ?_⟩
    · exact congrArg Prod.snd (hlookup.symm.trans (Part.hotlineLookup_unusable (p := q) n hunusable))
    · intro hvalid hlength answer
      have hanswer := hlookup.symm.trans (Part.hotlineLookup_completes (p := q) n hvalid hlength)
      exact ⟨congrArg Prod.fst hanswer, congrArg Prod.snd hanswer⟩
    · rintro c rfl
      exact hacts.trans (Part.actOn_refuse rfl route c)
    · rintro r rfl rfl
      exact hacts.trans (Part.actOn_routeTrunk rfl r)
    · rintro r target rfl rfl
      exact hacts.trans (Part.actOn_routeStationLocal rfl r target)

/-! ## Howler done (R38, R44) -/

/-- R38: the record of a line whose howler time has run out, and that no other changes. -/
theorem Part.howlerExpired_self (p : Part) (n : Line) : (p.howlerExpired n).lines[n] = p.lines[n].howled := by
  rw [Part.howlerExpired, Part.judgeTone_lines, Part.setLine_self]

theorem Part.howlerExpired_ne (p : Part) {n m : Line} (h : m ≠ n) : (p.howlerExpired n).lines[m] = p.lines[m] := by
  rw [Part.howlerExpired, Part.judgeTone_lines, Part.setLine_lines, getElem_set_fin, if_neg h.symm]

/-- Table 2-2: a line in LOCKOUT with howler done is served P4 and silence. -/
theorem Part.howled_reads {p : Part} {n : Line} (hst : p.lines[n].state = .lockout) (hdone : p.lines[n].howlerDone = true) :
    p.drivePattern n = 4 ∧ p.listenSource n = 0x140 := by
  refine ⟨by rw [Part.drivePattern_lockout hst, if_pos hdone], Part.listenSource_silent ?_ ?_ ?_⟩
  · exact selectedTone_silent (.inr (.inr (.inr (.inr ⟨hst, hdone⟩))))
  · rw [hst]; decide
  · rw [hst]; decide

/-- Settles O28: the cleardown limit enters LOCKOUT, and the howler time leaves the line in it with howler done. -/
theorem cleardownLeadsToLockoutAndSilence : Obligations.CleardownLeadsToLockoutAndSilence := by
  intro s n hlive hdue
  refine ⟨exec_cleardownLimitExpiry hlive hdue, fun hst => ⟨_, exec_howlerTimeExpiry hlive hdue hst, rfl, ?_⟩⟩
  have hline : (s.part.howlerExpired n).settled.lines[n] = s.part.lines[n].howled := by
    rw [Part.settled_lines, Part.howlerExpired_self]
  have hstate : (s.part.howlerExpired n).settled.lines[n].state = .lockout := by rw [hline]; exact hst
  obtain ⟨hdrive, hlisten⟩ := Part.howled_reads hstate (by rw [hline]; rfl)
  refine ⟨hstate, hdrive, hlisten, fun m hm => ?_, ?_, fun _ => rfl⟩
  · rw [State.after_part, Part.settled_lines, Part.howlerExpired_ne _ hm]
  · rw [State.after_part, Part.settled_chans, Part.howlerExpired, Part.judgeTone_chans, Part.setLine_chans]

end Sys2Proof.Machine
end

section
/-! What START, CLEAR-CALLS and a commit of its profile make of a line (R39, R42, R43, R101, R167, R173, R176), and then the
statements about them. -/

namespace Sys2Proof.Machine

/-! ## The lines and channels that START and CLEAR-CALLS take (R173, R176) -/

section StartLine

variable {p : Part} {n : Line}

/-- R42: the line is taken out of the lines that START posted, and originates when it stands off hook. -/
theorem Part.startLine_originates (hmode : p.cmd.mode = .running) (hidle : p.lines[n].state = .idle)
    (hloop : p.sup[n].loop = .closed) :
    p.startLine n = ({ p with cmd := { p.cmd with starting := p.cmd.starting.filter (· != n) } } : Part).originate n :=
  if_pos ⟨Part.isRunning_running hmode, hidle, hloop⟩

theorem Part.startLine_stays (h : p.lines[n].state ≠ .idle ∨ p.sup[n].loop = .opened) :
    p.startLine n = { p with cmd := { p.cmd with starting := p.cmd.starting.filter (· != n) } } := by
  refine if_neg fun ⟨_, hidle, hclosed⟩ => ?_
  obtain hst | hopen := h
  · exact hst hidle
  · exact nomatch hopen.symm.trans hclosed

end StartLine

section ClearCalls

variable {p : Part} {lines : List Line} {chans : List Chan} (h : p.cmd.long = .clearCalls lines chans)
include h

theorem Part.lineToClear_of_mem {n : Line} (hn : n ∈ lines) : p.lineToClear n = true := by
  simp only [Part.lineToClear, h]
  exact List.contains_iff_mem.mpr hn

theorem Part.chanToClear_of_mem {k : Chan} (hk : k ∈ chans) : p.chanToClear k = true := by
  simp only [Part.chanToClear, h]
  exact List.contains_iff_mem.mpr hk

theorem Part.clearLine_noCall {n : Line} (hst : p.lines[n].state.hasCall = false) :
    p.clearLine n = p.setLong (.clearCalls (lines.filter (· != n)) chans) := by
  simp only [Part.clearLine, h]
  exact if_neg (by rw [Part.setLong_lines, hst]; decide)

theorem Part.clearLine_hasCall {n : Line} (hst : p.lines[n].state.hasCall = true) :
    p.clearLine n = (p.setLong (.clearCalls (lines.filter (· != n)) chans)).tearDown n .congestion := by
  simp only [Part.clearLine, h]
  exact if_pos hst

theorem Part.clearIncoming_clears (k : Chan) :
    p.clearIncoming k = (p.setLong (.clearCalls lines (chans.filter (· != k)))).clearChan k := by
  simp only [Part.clearIncoming, h]

end ClearCalls

/-- R43: the states in which CLEAR-CALLS tears a line down. -/
theorem LineState.hasCall_iff (st : LineState) : st.hasCall = true ↔
    st = .dialing ∨ st = .queued ∨ st = .trunkSetup ∨ st = .localCalling ∨ st = .alerting ∨ st = .talk := by
  cases st <;> decide

theorem LineState.hasCall_eq_false_iff (st : LineState) : st.hasCall = false ↔
    st = .idle ∨ st = .cleardown ∨ st = .lockout ∨ st = .outOfService := by
  cases st <;> decide

/-- Settles O29: a posted line originates or stays, and CLEAR-CALLS takes what its sets hold. -/
theorem startAndClearCallsTakeTheirLines : Obligations.StartAndClearCallsTakeTheirLines := by
  refine ⟨?start, fun s lines chans hlive hlong => ⟨?lines, fun k hk => ?chans⟩⟩
  case start =>
    intro s n hlive hposted hmode p gives
    have starts {q : Part} (hq : s.part.startLine n = q) : gives q := by
      subst hq
      exact congrArg _ (State.eventIf_after (due := (·.startDue n)) (act := (·.startLine n)) hlive
        (List.contains_iff_mem.mpr hposted))
    refine ⟨fun h => starts (Part.startLine_stays h), fun hidle hloop => ?_⟩
    have originates {q : Part} (hq : p.originate n = q) : gives q :=
      starts ((Part.startLine_originates hmode hidle hloop).trans hq)
    exact ⟨fun hclear => originates (Part.originate_clearing hclear),
      fun hclear hhot => originates (Part.originate_dials hclear hhot),
      fun d hclear hline hdelay => originates (Part.originate_hotline hclear hline hdelay)⟩
  case lines =>
    intro n hn p state gives
    have clears {q : Part} (hq : s.part.clearLine n = q) : gives q := by
      subst hq
      exact congrArg _ (State.eventIf_after (due := (·.lineToClear n)) (act := (·.clearLine n)) hlive
        (Part.lineToClear_of_mem hlong hn))
    exact ⟨fun hst => clears (Part.clearLine_noCall hlong ((LineState.hasCall_eq_false_iff _).mpr hst)),
      fun hst => clears (Part.clearLine_hasCall hlong ((LineState.hasCall_iff _).mpr hst))⟩
  case chans =>
    exact congrArg _ ((State.eventIf_after (due := (·.chanToClear k)) (act := (·.clearIncoming k)) hlive
      (Part.chanToClear_of_mem hlong hk)).trans (congrArg _ (Part.clearIncoming_clears hlong k)))

/-! ## Line profiles (R39, R167, Table 10-8) -/

theorem Profile.ofWords_range {w0 w1 w2 w3 : Word} (h : 99 < field w0 0 7 ∨ 10 < field w3 0 4 ∨ 1 < field w1 5 2) :
    Profile.ofWords w0 w1 w2 w3 = .error .range := if_pos h

/-- R167: words in range give the profile that their fields spell. -/
theorem Profile.ofWords_ok {w0 w1 w2 w3 : Word} (h : ¬ (99 < field w0 0 7 ∨ 10 < field w3 0 4 ∨ 1 < field w1 5 2)) :
    Profile.ofWords w0 w1 w2 w3 = .ok
      { inService := w0.getLsbD 15, station := field w0 0 7, level := .ofCode (field w1 0 2)
        ringPattern := if w1.getLsbD 2 then .b else .a, reversal := w1.getLsbD 3, trunkAccess := w1.getLsbD 4
        lineClass := if field w1 5 2 = 1 then .priority else .normal
        hotline := if w2.getLsbD 15 then some (Fin.ofNat 64 (field w2 0 6)) else none, hotlineDelay := field w3 0 4 } := by
  have hentry : asFin 64 (field w2 0 6) = some (Fin.ofNat 64 (field w2 0 6)) := by
    have hlt : field w2 0 6 < 64 := (w2.extractLsb' 0 6).isLt
    rw [asFin_lt hlt]
    exact congrArg some (Fin.ext (Nat.mod_eq_of_lt hlt).symm)
  rw [← hentry]
  exact if_neg h

theorem Part.stationTaken_iff (p : Part) (n : Line) (station : Nat) : p.stationTaken n station = true ↔
    ∃ m : Line, m ≠ n ∧ p.lines[m].profile.inService = true ∧ p.lines[m].profile.station = station := by
  simp only [Part.stationTaken, List.any_eq_true, List.mem_finRange, true_and, Bool.and_eq_true, bne_iff_ne, beq_iff_eq,
    and_assoc]

section Commit

variable {p : Part} {n : Line} {w : Word}

theorem Part.commitProfile_error {reason : RefusalReason}
    (h : Profile.ofWords (p.copy (profileOffset n 0)) (p.copy (profileOffset n 1)) (p.copy (profileOffset n 2)) w =
      .error reason) : p.commitProfile n w = p.tableRefused (.profile n) reason := by
  simp only [Part.commitProfile, h]

variable {profile : Profile}
  (h : Profile.ofWords (p.copy (profileOffset n 0)) (p.copy (profileOffset n 1)) (p.copy (profileOffset n 2)) w =
    .ok profile)
include h

theorem Part.commitProfile_duplicate (hin : profile.inService = true) (htaken : p.stationTaken n profile.station = true) :
    p.commitProfile n w = p.tableRefused (.profile n) .duplicate := by
  simp only [Part.commitProfile, h]
  exact if_pos ⟨hin, htaken⟩

theorem Part.commitProfile_installs (hfree : profile.inService = false ∨ ¬ p.stationTaken n profile.station = true) :
    p.commitProfile n w = p.installProfile n profile := by
  simp only [Part.commitProfile, h]
  refine if_neg fun ⟨hin, htaken⟩ => ?_
  obtain hout | hnot := hfree
  · exact nomatch hout.symm.trans hin
  · exact hnot htaken

end Commit

section Install

variable {p : Part} {n : Line} {profile : Profile}

/-- R39: with in service unchanged nothing but the profile changes. -/
theorem Part.installProfile_same (h : p.lines[n].profile.inService = profile.inService) :
    p.installProfile n profile = p.setLine n (p.lines[n].withProfile profile) := by
  cases hin : profile.inService <;> simp only [Part.installProfile, h, hin]

/-- R39: going out of service, a call is abandoned in RUNNING. -/
theorem Part.installProfile_leaves (hold : p.lines[n].profile.inService = true) (hnew : profile.inService = false) :
    (p.cmd.mode = .running → p.installProfile n profile =
        ((p.setLine n (p.lines[n].withProfile profile)).abandon n).enterLine n .outOfService) ∧
      (p.cmd.mode = .halted → p.installProfile n profile =
        (p.setLine n (p.lines[n].withProfile profile)).enterLine n .outOfService) := by
  refine ⟨fun hmode => ?_, fun hmode => ?_⟩ <;> simp only [Part.installProfile, hold, hnew]
  · rw [if_pos (Part.isRunning_running (p := p.setLine n _) hmode)]
  · rw [if_neg (Bool.eq_false_iff.mp (Part.isRunning_halted (p := p.setLine n _) hmode))]

/-- R39: going into service, a line that stands off hook originates in RUNNING. -/
theorem Part.installProfile_enters (hold : p.lines[n].profile.inService = false) (hnew : profile.inService = true) :
    ((p.cmd.mode = .halted ∨ p.sup[n].loop = .opened) → p.installProfile n profile =
        (p.setLine n (p.lines[n].withProfile profile)).enterLine n .idle) ∧
      (p.cmd.mode = .running → p.sup[n].loop = .closed → p.installProfile n profile =
        ((p.setLine n (p.lines[n].withProfile profile)).enterLine n .idle).originate n) := by
  refine ⟨fun h => ?_, fun hmode hloop => ?_⟩ <;> simp only [Part.installProfile, hold, hnew]
  · refine if_neg fun ⟨hrunning, hclosed⟩ => ?_
    obtain hmode | hopen := h
    · exact nomatch (Part.isRunning_halted hmode).symm.trans hrunning
    · exact nomatch hopen.symm.trans hclosed
  · exact if_pos ⟨Part.isRunning_running hmode, hloop⟩

end Install

/-- A commit that the table loader takes. -/
theorem exec_profileCommit {s : State} {n : Line} {w : Word} (h : s.takesWrite (0x603 + 4 * n.val) w) :
    exec (.profileCommit n w) s =
      .next ((s.served (0x603 + 4 * n.val) w).after (s.part.commitProfile n w)) := by
  have hoffset : profileOffset n 3 = 0x603 + 4 * n.val := by unfold profileOffset; omega
  rw [← hoffset] at h ⊢
  exact congrArg _ (State.snooped_after (act := (·.commitProfile n w)) h)

/-- Settles O45: the checks of the commit, and the install by the old and the new in-service fields. -/
theorem profileCommitActsOnTheLine : Obligations.ProfileCommitActsOnTheLine := by
  intro s n w htakes word station classCode delay range inService taken profile p gives refused before
  have commits {q : Part} (hq : s.part.commitProfile n w = q) : gives q := by
    subst hq
    exact exec_profileCommit htakes
  have htaken : s.part.stationTaken n station = true ↔ taken := Part.stationTaken_iff ..
  have hok (hrange : range) : Profile.ofWords (s.part.copy (profileOffset n 0)) (s.part.copy (profileOffset n 1))
      (s.part.copy (profileOffset n 2)) w = .ok profile := by
    obtain ⟨hstation, hdelay, hclass⟩ := hrange
    refine Profile.ofWords_ok fun h => ?_
    obtain h | h | h := h
    · exact Nat.not_lt.mpr hstation h
    · exact Nat.not_lt.mpr hdelay h
    · exact Nat.not_lt.mpr hclass h
  refine ⟨fun hrange => commits (Part.commitProfile_error (Profile.ofWords_range ?_)), fun hrange hin htwice => ?_,
    fun hrange hfree => ?_⟩
  · by_contra h
    obtain ⟨hstation, hdelay, hclass⟩ := not_or.mp h |>.imp_right not_or.mp
    exact hrange ⟨Nat.not_lt.mp hstation, Nat.not_lt.mp hdelay, Nat.not_lt.mp hclass⟩
  · exact commits (Part.commitProfile_duplicate (hok hrange) hin (htaken.mpr htwice))
  · have installs {q : Part} (hq : s.part.installProfile n profile = q) : gives q :=
      commits ((Part.commitProfile_installs (hok hrange) (hfree.imp_right (mt htaken.mp))).trans hq)
    refine ⟨fun hsame => installs (Part.installProfile_same hsame), fun hold hnew => ?_, fun hold hnew => ?_⟩
    · obtain ⟨hrunning, hhalted⟩ := Part.installProfile_leaves (p := s.part) (n := n) (profile := profile) hold hnew
      exact ⟨fun hmode => installs (hrunning hmode), fun hmode => installs (hhalted hmode)⟩
    · obtain ⟨hstays, horiginates⟩ := Part.installProfile_enters (p := s.part) (n := n) (profile := profile) hold hnew
      exact ⟨fun h => installs (hstays h), fun hmode hloop => installs (horiginates hmode hloop)⟩

end Sys2Proof.Machine
end

section
/-! The directory: the fields of an entry, the checks of its commit, and the statement about the order of the checks (R45 to
R47, Tables 3-2 and 10-7). -/

namespace Sys2Proof.Machine

/-! ## The digits of an entry (Table 10-7) -/

/-- The digits of an entry are the first that are written, as many as its length field says. -/
theorem DirEntry.pfx_getElem? (e : DirEntry) (i : Fin 6) :
    e.pfx[i.val]? = if i.val < e.pfxLength.toNat then some e.nibbles[i].toNat else none := by
  simp only [DirEntry.pfx, List.getElem?_map, List.getElem?_take, Vector.getElem?_toList, Fin.getElem_fin]
  split
  · rw [Vector.getElem?_eq_getElem i.isLt]; rfl
  · rfl

/-! ## The checks of a commit (R46) -/

/-- A mask fits Table 10-7: no bit but those of C01 to C12 is set. -/
theorem trunkMask_iff (mask : BitVec 16) :
    mask &&& 0xE001 = 0 ↔ ∀ i : Fin 16, mask.getLsbD i.val = true → 1 ≤ i.val ∧ i.val ≤ 12 := by
  have hchan : ∀ i : Fin 16, (0xE001#16).getLsbD i.val = false ↔ 1 ≤ i.val ∧ i.val ≤ 12 := by decide
  constructor
  · intro h i hi
    have hbit := congrArg (·.getLsbD i.val) h
    simp only [BitVec.getLsbD_and, hi, Bool.true_and] at hbit
    exact (hchan i).mp (hbit.trans BitVec.getLsbD_zero)
  · intro h
    refine BitVec.eq_of_getLsbD_eq fun i hi => ?_
    rw [BitVec.getLsbD_and]
    cases hbit : mask.getLsbD i with
    | false => exact BitVec.getLsbD_zero.symm
    | true => exact ((hchan ⟨i, hi⟩).mpr (h ⟨i, hi⟩ hbit)).trans BitVec.getLsbD_zero.symm

/-- Check 1: the fields are in their ranges. -/
theorem DirEntry.rangeOk_iff (e : DirEntry) : e.rangeOk = true ↔
    1 ≤ e.pfxLength.toNat ∧ e.pfxLength.toNat ≤ 6 ∧ (∀ x ∈ e.pfx, x ≤ 11) ∧
      e.pfxLength.toNat ≤ e.totalLength.toNat ∧ e.totalLength.toNat ≤ 16 ∧ e.strip.toNat ≤ e.pfxLength.toNat ∧
      e.kind ≠ 3 ∧ e.callClass ≠ 3 ∧ ∀ i : Fin 16, e.mask.getLsbD i.val = true → 1 ≤ i.val ∧ i.val ≤ 12 := by
  simp only [DirEntry.rangeOk, within, Bool.and_eq_true, decide_eq_true_eq, List.all_eq_true, bne_iff_ne, beq_iff_eq,
    trunkMask_iff, and_assoc]

/-- Check 2: only an EMERGENCY entry preempts. -/
theorem DirEntry.preemptOk_iff (e : DirEntry) : e.preemptOk = true ↔ (e.preempt = true → e.callClass = 2) := by
  cases hpreempt : e.preempt <;> simp [DirEntry.preemptOk, hpreempt]

/-- Check 3: a STATION entry asks for two digits after its own. -/
theorem DirEntry.stationOk_iff (e : DirEntry) :
    e.stationOk = true ↔ (e.kind = 1 → e.totalLength.toNat = e.pfxLength.toNat + 2) := by
  simp only [DirEntry.stationOk, Bool.or_eq_true, bne_iff_ne, beq_iff_eq, imp_iff_not_or, ne_eq]

/-- Check 4: exactly a DENY entry names no trunk. -/
theorem DirEntry.maskOk_iff (e : DirEntry) : e.maskOk = true ↔ (e.kind = 0 ↔ e.mask = 0) := by
  unfold DirEntry.maskOk
  split
  · rename_i hkind
    simp only [hkind, beq_iff_eq, true_iff]
  · rename_i hkind
    simp only [hkind, bne_iff_ne, ne_eq, false_iff]

/-- Check 5: no other valid entry has the digits. -/
theorem Part.duplicatePfx_eq_false_iff (p : Part) (d : EntryIx) (e : DirEntry) : p.duplicatePfx d e = false ↔
    ∀ i : EntryIx, i ≠ d → p.directory[i].valid = true → p.directory[i].pfx ≠ e.pfx := by
  simp only [Part.duplicatePfx, List.any_eq_false, List.mem_finRange, true_implies, Bool.and_eq_true, bne_iff_ne,
    beq_iff_eq, not_and, and_imp, ne_eq]

/-! ## The order of the checks (R46, R47) -/

section Refusal

variable (p : Part) (d : EntryIx) {e : DirEntry}

theorem Part.entryRefusal_invalid (h : e.valid = false) : p.entryRefusal d e = none := by
  simp only [Part.entryRefusal, h]
  rfl

variable (hvalid : e.valid = true)
include hvalid

theorem Part.entryRefusal_range (h : ¬ e.rangeOk = true) : p.entryRefusal d e = some .range := by
  simp [Part.entryRefusal, hvalid, h]

variable (hrange : e.rangeOk = true)
include hrange

theorem Part.entryRefusal_preempt (h : ¬ e.preemptOk = true) : p.entryRefusal d e = some .preempt := by
  simp [Part.entryRefusal, hvalid, hrange, h]

variable (hpreempt : e.preemptOk = true)
include hpreempt

theorem Part.entryRefusal_stationLength (h : ¬ e.stationOk = true) : p.entryRefusal d e = some .stationLength := by
  simp [Part.entryRefusal, hvalid, hrange, hpreempt, h]

variable (hstation : e.stationOk = true)
include hstation

theorem Part.entryRefusal_mask (h : ¬ e.maskOk = true) : p.entryRefusal d e = some .mask := by
  simp [Part.entryRefusal, hvalid, hrange, hpreempt, hstation, h]

variable (hmask : e.maskOk = true)
include hmask

theorem Part.entryRefusal_duplicate (h : ¬ p.duplicatePfx d e = false) : p.entryRefusal d e = some .duplicate := by
  simp [Part.entryRefusal, hvalid, hrange, hpreempt, hstation, hmask, h]

theorem Part.entryRefusal_passes (h : p.duplicatePfx d e = false) : p.entryRefusal d e = none := by
  simp [Part.entryRefusal, hvalid, hrange, hpreempt, hstation, hmask, h]

end Refusal

/-- A valid entry that no check refuses is in range, and no other valid entry has its digits. -/
theorem Part.entryRefusal_none {p : Part} {d : EntryIx} {e : DirEntry} (h : p.entryRefusal d e = none)
    (hvalid : e.valid = true) : e.rangeOk = true ∧ p.duplicatePfx d e = false := by
  unfold Part.entryRefusal at h
  split_ifs at h with hout hrange hpreempt hstation hmask hduplicate
  · exact nomatch hvalid.symm.trans ((Bool.not_eq_true' _).mp hout)
  · simpa using And.intro hrange hduplicate

section Commit

variable {p : Part} {d : EntryIx} {w : Word}

theorem Part.commitEntry_installs (h : p.entryRefusal d (p.entryOfWords d w) = none) :
    p.commitEntry d w = { p with directory := p.directory.set d.val (p.entryOfWords d w) } := by
  simp only [Part.commitEntry, h]

theorem Part.commitEntry_refused {reason : RefusalReason} (h : p.entryRefusal d (p.entryOfWords d w) = some reason) :
    p.commitEntry d w =
      p.hand .tableRefused (.entry d) (detail2 6 (BitVec.ofNat 8 d.val)) (detail1 reason.item) := by
  simp only [Part.commitEntry, h]
  rfl

end Commit

/-- A commit that the table loader takes. -/
theorem exec_directoryCommit {s : State} {d : EntryIx} {w : Word} (h : s.takesWrite (0x803 + 4 * d.val) w) :
    exec (.directoryCommit d w) s =
      .next ((s.served (0x803 + 4 * d.val) w).after (s.part.commitEntry d w)) := by
  have hoffset : entryOffset d 3 = 0x803 + 4 * d.val := by unfold entryOffset; omega
  rw [← hoffset] at h ⊢
  exact congrArg _ (State.snooped_after (act := (·.commitEntry d w)) h)

/-- Settles O44: the entry is refused for the first check that fails, and its fields are those of Table 10-7. -/
theorem directoryCommitChecksInOrder : Obligations.DirectoryCommitChecksInOrder := by
  intro s d w htakes word e length range preempt station mask alone gives refused installed
  have hrange : e.rangeOk = true ↔ range := e.rangeOk_iff
  have hpreempt : e.preemptOk = true ↔ preempt := e.preemptOk_iff
  have hstation : e.stationOk = true ↔ station := e.stationOk_iff
  have hmask : e.maskOk = true ↔ mask := e.maskOk_iff
  have halone : s.part.duplicatePfx d e = false ↔ alone := s.part.duplicatePfx_eq_false_iff d e
  have commits {q : Part} (hq : s.part.commitEntry d w = q) : gives q := by
    subst hq
    exact exec_directoryCommit htakes
  have installs (h : s.part.entryRefusal d e = none) : installed := commits (Part.commitEntry_installs h)
  have refuses {reason : RefusalReason} {item : Nat} (hitem : reason.item = item)
      (h : s.part.entryRefusal d e = some reason) : refused item := by
    subst hitem
    exact commits (Part.commitEntry_refused h)
  refine ⟨fun hvalid => installs (Part.entryRefusal_invalid _ _ hvalid), fun hvalid => ?_, rfl, rfl, rfl, rfl, rfl, rfl,
    rfl, rfl, rfl, e.pfx_getElem?⟩
  rw [← hrange, ← hpreempt, ← hstation, ← hmask, ← halone]
  exact ⟨fun h => refuses rfl (Part.entryRefusal_range _ _ hvalid h),
    fun hr h => refuses rfl (Part.entryRefusal_preempt _ _ hvalid hr h),
    fun hr hp h => refuses rfl (Part.entryRefusal_stationLength _ _ hvalid hr hp h),
    fun hr hp hs h => refuses rfl (Part.entryRefusal_mask _ _ hvalid hr hp hs h),
    fun hr hp hs hm h => refuses rfl (Part.entryRefusal_duplicate _ _ hvalid hr hp hs hm h),
    fun hr hp hs hm h => installs (Part.entryRefusal_passes _ _ hvalid hr hp hs hm h)⟩

end Sys2Proof.Machine
end

section
/-! The number translator: the lookup of dialled digits and the completion of a route (R46, R49 to R58, Tables 3-3 and
3-4). -/

namespace Sys2Proof.Machine

/-! ## Matching (R49) -/

theorem isPrefixOf_iff_append (l l' : List Digit) : l.isPrefixOf l' = true ↔ ∃ rest, l' = l ++ rest := by
  rw [List.isPrefixOf_iff_prefix]
  exact exists_congr fun _ => eq_comm

theorem DirEntry.fullyMatched_iff (e : DirEntry) (digits : List Digit) :
    e.fullyMatched digits = true ↔ e.valid = true ∧ ∃ rest, digits = pfxDigits e ++ rest := by
  simp only [DirEntry.fullyMatched, Bool.and_eq_true, isPrefixOf_iff_append]

theorem DirEntry.agrees_iff (e : DirEntry) (digits : List Digit) :
    e.agrees digits = true ↔ e.valid = true ∧
      ((∃ rest, digits = pfxDigits e ++ rest) ∨ ∃ rest, pfxDigits e = digits ++ rest) := by
  simp only [DirEntry.agrees, Bool.and_eq_true, Bool.or_eq_true, isPrefixOf_iff_append]

/-- A fully matched entry agrees. -/
theorem DirEntry.agrees_of_fullyMatched {e : DirEntry} {digits : List Digit} (h : e.fullyMatched digits = true) :
    e.agrees digits = true := by
  obtain ⟨hvalid, hrest⟩ := (e.fullyMatched_iff digits).mp h
  exact (e.agrees_iff digits).mpr ⟨hvalid, .inl hrest⟩

/-- Two fully matched entries with prefixes of one length have the same digits. -/
theorem pfxDigits_eq_of_fullyMatched {e e' : DirEntry} {digits : List Digit} (h : e.fullyMatched digits = true)
    (h' : e'.fullyMatched digits = true) (hlength : (pfxDigits e).length = (pfxDigits e').length) :
    pfxDigits e = pfxDigits e' := by
  obtain ⟨-, rest, hrest⟩ := (e.fullyMatched_iff digits).mp h
  obtain ⟨-, rest', hrest'⟩ := (e'.fullyMatched_iff digits).mp h'
  exact (List.append_inj (hrest.symm.trans hrest') hlength).1

/-- In an entry in range every code is a digit. -/
theorem pfxDigits_val {e : DirEntry} (h : ∀ x ∈ e.pfx, x ≤ 11) : (pfxDigits e).map Fin.val = e.pfx := by
  unfold pfxDigits
  generalize e.pfx = l at h
  induction l with
  | nil => rfl
  | cons x rest ih =>
    obtain ⟨hx, hrest⟩ := List.forall_mem_cons.mp h
    rw [List.filterMap_cons_some (asFin_lt (Nat.lt_succ_of_le hx)), List.map_cons, ih hrest]

/-! ## Resolution (R50) -/

theorem Part.mem_directory_iff (p : Part) (e : DirEntry) :
    e ∈ p.directory.toList ↔ ∃ d : EntryIx, p.directory[d] = e := by
  rw [Vector.mem_toList_iff, Vector.mem_iff_getElem]
  exact ⟨fun ⟨i, hi, he⟩ => ⟨⟨i, hi⟩, he⟩, fun ⟨d, he⟩ => ⟨d.val, d.isLt, he⟩⟩

theorem Part.any_directory_iff (p : Part) (test : DirEntry → Bool) :
    p.directory.toList.any test = true ↔ ∃ d : EntryIx, test p.directory[d] = true := by
  simp only [List.any_eq_true, p.mem_directory_iff, exists_exists_eq_and]

section Resolution

variable {p : Part} {digits : List Digit}

/-- The longest match is the length of a fully matched entry, and no fully matched entry is longer. -/
theorem Part.longestMatch_some {len : Nat} : p.longestMatch digits = some len ↔
    (∃ d : EntryIx, p.directory[d].fullyMatched digits = true ∧ (pfxDigits p.directory[d]).length = len) ∧
      ∀ d : EntryIx, p.directory[d].fullyMatched digits = true → (pfxDigits p.directory[d]).length ≤ len := by
  simp only [Part.longestMatch, List.max?_eq_some_iff, List.mem_map, List.mem_filter, p.mem_directory_iff]
  constructor
  · rintro ⟨⟨_, ⟨⟨d, rfl⟩, hd⟩, hlen⟩, hmax⟩
    exact ⟨⟨d, hd, hlen⟩, fun e he => hmax _ ⟨_, ⟨⟨e, rfl⟩, he⟩, rfl⟩⟩
  · rintro ⟨⟨d, hd, hlen⟩, hmax⟩
    refine ⟨⟨_, ⟨⟨d, rfl⟩, hd⟩, hlen⟩, ?_⟩
    rintro _ ⟨_, ⟨⟨e, rfl⟩, he⟩, rfl⟩
    exact hmax e he

/-- R50: a resolved entry is fully matched, and no entry that agrees is longer. -/
theorem Part.resolution_spec {d : EntryIx} (h : p.resolution digits = some d) :
    p.directory[d].fullyMatched digits = true ∧ ∀ e : EntryIx, p.directory[e].agrees digits = true →
      (pfxDigits p.directory[e]).length ≤ (pfxDigits p.directory[d]).length := by
  unfold Part.resolution at h
  split at h
  · cases h
  · rename_i len hlen
    split at h
    · cases h
    · rename_i hlonger
      have hd := List.find?_some h
      simp only [Bool.and_eq_true, beq_iff_eq] at hd
      obtain ⟨hmatched, hlength⟩ := hd
      refine ⟨hmatched, fun e he => ?_⟩
      by_contra hlt
      refine hlonger ((p.any_directory_iff _).mpr ⟨e, ?_⟩)
      rw [he, Bool.true_and, decide_eq_true_eq]
      omega

/-- R46, R50: in a directory as its commits check it, a fully matched entry that no agreeing entry outranks is the
resolution. -/
theorem Part.resolution_of_longest (hdistinct : p.entriesDistinct) (hdigits : p.entriesInDigits) {d : EntryIx}
    (hmatched : p.directory[d].fullyMatched digits = true)
    (hlongest : ∀ e : EntryIx, p.directory[e].agrees digits = true →
      (pfxDigits p.directory[e]).length ≤ (pfxDigits p.directory[d]).length) : p.resolution digits = some d := by
  have hlen : p.longestMatch digits = some (pfxDigits p.directory[d]).length :=
    Part.longestMatch_some.mpr ⟨⟨d, hmatched, rfl⟩, fun e he => hlongest e (DirEntry.agrees_of_fullyMatched he)⟩
  have hfirst (e : EntryIx) (he : p.directory[e].fullyMatched digits = true)
      (hlength : (pfxDigits p.directory[e]).length = (pfxDigits p.directory[d]).length) : e = d := by
    have hev := ((DirEntry.fullyMatched_iff _ _).mp he).1
    have hdv := ((DirEntry.fullyMatched_iff _ _).mp hmatched).1
    refine hdistinct e d hev hdv ?_
    rw [← pfxDigits_val (hdigits e hev), ← pfxDigits_val (hdigits d hdv),
      pfxDigits_eq_of_fullyMatched he hmatched hlength]
  unfold Part.resolution
  rw [hlen]
  simp only
  rw [if_neg]
  · refine find_finRange _ d (by rw [hmatched, beq_self_eq_true, Bool.and_self]) fun e hlt => ?_
    by_contra he
    simp only [Bool.not_eq_false, Bool.and_eq_true, beq_iff_eq] at he
    exact Fin.ne_of_lt hlt (hfirst e he.1 he.2)
  · intro hany
    obtain ⟨e, he⟩ := (p.any_directory_iff _).mp hany
    simp only [Bool.and_eq_true, decide_eq_true_eq] at he
    exact Nat.not_lt.mpr (hlongest e he.1) he.2

end Resolution

/-! ## The lookup (R51, R52, Table 3-3) -/

section Judge

variable (p : Part) (n : Line) {r : Route} {digits : List Digit}

theorem Part.judgeRoute_short (h : digits.length < r.totalLength) : p.judgeRoute n r digits = (r, .needMore) := if_pos h

theorem Part.judgeRoute_whole (h : digits.length = r.totalLength) : p.judgeRoute n r digits = p.complete n r digits := by
  rw [Part.judgeRoute, if_neg (Nat.not_lt.mpr h.ge), if_pos h]

theorem Part.judgeRoute_over (h : r.totalLength < digits.length) :
    p.judgeRoute n r digits = (r, .refuse .unobtainable) := by
  rw [Part.judgeRoute, if_neg (Nat.not_lt.mpr h.le), if_neg (Nat.ne_of_gt h)]

end Judge

section Lookup

variable {p : Part} {n : Line} (digits : List Digit)

theorem Part.lookup_routed {r : Route} (h : p.lines[n].route = some r) :
    p.lookup n digits = (p.judgeRoute n r digits).map some id := by
  simp only [Part.lookup, h]

variable (hroute : p.lines[n].route = none) {digits}
include hroute

theorem Part.lookup_resolved {d : EntryIx} (h : p.resolution digits = some d) :
    p.lookup n digits = (p.judgeRoute n (p.directory[d].route d) digits).map some id := by
  simp only [Part.lookup, hroute, h]

theorem Part.lookup_unresolved (h : p.resolution digits = none)
    (hagrees : ∃ d : EntryIx, p.directory[d].agrees digits = true) :
    p.lookup n digits = (none, .needMore) := by
  simp only [Part.lookup, hroute, h]
  exact if_pos ((p.any_directory_iff _).mpr hagrees)

/-- With no entry that agrees the number is vacant: none resolves either. -/
theorem Part.lookup_vacant (h : ∀ d : EntryIx, p.directory[d].agrees digits = false) :
    p.lookup n digits = (none, .refuse .unobtainable) := by
  have hnone : p.resolution digits = none := Option.eq_none_iff_forall_ne_some.mpr fun d hd =>
    nomatch (h d).symm.trans (DirEntry.agrees_of_fullyMatched (Part.resolution_spec hd).1)
  simp only [Part.lookup, hroute, hnone]
  refine if_neg fun hany => ?_
  obtain ⟨d, hd⟩ := (p.any_directory_iff _).mp hany
  exact nomatch (h d).symm.trans hd

end Lookup

/-- The route of an entry (R51), with the kind and class codes of Table 10-7. -/
theorem DirEntry.route_codes (e : DirEntry) (d : EntryIx) :
    (e.kind = 0 → (e.route d).kind = .deny) ∧ (e.kind = 1 → (e.route d).kind = .station) ∧
      (e.kind = 2 → (e.route d).kind = .trunk) ∧ (e.callClass = 0 → (e.route d).entryClass = .normal) ∧
      (e.callClass = 1 → (e.route d).entryClass = .priority) ∧
      (e.callClass = 2 → (e.route d).entryClass = .emergency) := by
  refine ⟨?_, ?_, ?_, ?_, ?_, ?_⟩ <;> intro h <;> simp only [DirEntry.route, h] <;> rfl

/-- Settles O25: the route in the line is judged by the digits, and a line without one takes the route of the resolution. -/
theorem dialledLookupVerdict : Obligations.DialledLookupVerdict := by
  intro p n digits
  refine ⟨fun r hr hlt => ?_, fun r hr heq => ?_, fun hroute => ⟨Part.lookup_vacant hroute, fun hagrees hnone =>
    Part.lookup_unresolved hroute hnone hagrees, fun d hd => ?_⟩, fun hdistinct hdigits d hmatched hlongest =>
    Part.resolution_of_longest hdistinct hdigits hmatched hlongest, fun e d => ⟨rfl, rfl, e.route_codes d⟩,
    fun e => ⟨e.fullyMatched_iff digits, e.agrees_iff digits⟩⟩
  · rw [Part.lookup_routed digits hr, Part.judgeRoute_short p n hlt]
    rfl
  · rw [Part.lookup_routed digits hr, Part.judgeRoute_whole p n heq]
    rfl
  · rw [Part.lookup_resolved hroute hd]
    refine ⟨fun hlt => ?_, fun heq => ?_, fun hgt => ?_, Part.resolution_spec hd⟩
    · rw [Part.judgeRoute_short p n hlt]
      rfl
    · rw [Part.judgeRoute_whole p n heq]
      rfl
    · rw [Part.judgeRoute_over p n hgt]
      rfl

/-! ## Completion (R53 to R58, Table 3-4) -/

/-- R57: the digits a channel can send are those with a decimal of the same value. -/
theorem decimals_some_iff (digits : List Digit) (decs : List Dec) :
    decimals digits = some decs ↔ digits.map Fin.val = decs.map Fin.val := by
  induction digits generalizing decs with
  | nil => cases decs <;> simp [decimals]
  | cons d rest ih =>
    by_cases hd : d.val < 10
    · have hdec : Digit.decimal d = some ⟨d.val, hd⟩ := asFin_lt hd
      cases decs with
      | nil => cases hrest : decimals rest <;> simp [decimals, hdec, hrest]
      | cons x xs =>
        rw [List.map_cons, List.map_cons, List.cons.injEq, ← ih xs]
        cases hrest : decimals rest <;> simp [decimals, hdec, hrest, Fin.ext_iff]
    · have hdec : Digit.decimal d = none := asFin_ge hd
      have hne (x : Dec) : d.val ≠ x.val := by omega
      cases decs <;> simp [decimals, hdec, hne]

/-- R57: with a `*` or a `#` among them the digits cannot be sent. -/
theorem decimals_none {digits : List Digit} (h : ∃ d ∈ digits, 10 ≤ d.val) : decimals digits = none := by
  refine Option.eq_none_iff_forall_ne_some.mpr fun decs hdecs => ?_
  obtain ⟨d, hd, hge⟩ := h
  have hmem : d.val ∈ decs.map Fin.val := (decimals_some_iff digits decs).mp hdecs ▸ List.mem_map_of_mem hd
  obtain ⟨x, -, hx⟩ := List.mem_map.mp hmem
  omega

theorem trunkVerdict_sends {r : Route} (c : CallClass) {digits : List Digit} {decs : List Dec}
    (h : (digits.drop r.strip).map Fin.val = decs.map Fin.val) :
    trunkVerdict r c digits = ({ r with callClass := c, forwarded := decs }, .routeTrunk) := by
  simp only [trunkVerdict, (decimals_some_iff _ _).mpr h]

theorem trunkVerdict_refuses {r : Route} (c : CallClass) {digits : List Digit}
    (h : ∃ d ∈ digits.drop r.strip, 10 ≤ d.val) : trunkVerdict r c digits = (r, .refuse .unobtainable) := by
  simp only [trunkVerdict, decimals_none h]

section LocalVerdict

variable {p : Part} {digits : List Digit} (r : Route) (c : CallClass)

theorem Part.localVerdict_finds {tens units : Dec} {target : Line}
    (hdigits : decimals (digits.drop (digits.length - 2)) = some [tens, units])
    (hline : p.stationLine (10 * tens.val + units.val) = some target) :
    p.localVerdict r c digits = ({ r with callClass := c, target := some target }, .routeStationLocal target) := by
  simp only [Part.localVerdict, stationDigits, hdigits, Option.bind_some, stationOf, hline]

theorem Part.localVerdict_noLine {tens units : Dec}
    (hdigits : decimals (digits.drop (digits.length - 2)) = some [tens, units])
    (hline : p.stationLine (10 * tens.val + units.val) = none) :
    p.localVerdict r c digits = (r, .refuse .unobtainable) := by
  simp only [Part.localVerdict, stationDigits, hdigits, Option.bind_some, stationOf, hline]

theorem Part.localVerdict_noStation (hdigits : decimals (digits.drop (digits.length - 2)) = none) :
    p.localVerdict r c digits = (r, .refuse .unobtainable) := by
  simp only [Part.localVerdict, stationDigits, hdigits, Option.bind_none]

end LocalVerdict

section Complete

variable {p : Part} (n : Line) {r : Route} (digits : List Digit)

theorem Part.complete_deny (h : r.kind = .deny) : p.complete n r digits = (r, .refuse .unobtainable) := by
  simp only [Part.complete, h]

theorem Part.complete_stationLocal (h : r.kind = .station) (hlocal : p.localSwitching = true) :
    p.complete n r digits = p.localVerdict r (r.entryClass.max p.lines[n].profile.lineClass) digits := by
  simp only [Part.complete, h, hlocal, if_true]

theorem Part.complete_barred (h : r.kind = .trunk) (haccess : p.lines[n].profile.trunkAccess = false)
    (hclass : r.entryClass.max p.lines[n].profile.lineClass ≠ .emergency) :
    p.complete n r digits = (r, .refuse .unobtainable) := by
  simp only [Part.complete, h]
  rw [if_pos]
  rw [haccess, Bool.not_false, Bool.true_and, bne_iff_ne]
  exact hclass

/-- R55, R57, R58: a STATION route that is not switched locally and a TRUNK route with access, or of class EMERGENCY. -/
theorem Part.complete_trunk (h : (r.kind = .station ∧ p.localSwitching = false) ∨ (r.kind = .trunk ∧
      (p.lines[n].profile.trunkAccess = true ∨ r.entryClass.max p.lines[n].profile.lineClass = .emergency))) :
    p.complete n r digits = trunkVerdict r (r.entryClass.max p.lines[n].profile.lineClass) digits := by
  obtain ⟨hkind, hlocal⟩ | ⟨hkind, haccess⟩ := h
  · simp only [Part.complete, hkind, hlocal]
    rfl
  · simp only [Part.complete, hkind]
    refine if_neg fun hbarred => ?_
    obtain haccess | hclass := haccess
    · rw [haccess] at hbarred
      exact nomatch hbarred
    · rw [hclass, bne_self_eq_false, Bool.and_false] at hbarred
      exact nomatch hbarred

end Complete

/-- R55: when local switching is in force. -/
theorem Part.localSwitching_iff (p : Part) : p.localSwitching = true ↔
    p.gen.switching = .always ∨ (p.gen.switching = .isolated ∧ p.link.state ≠ .up) := by
  unfold Part.localSwitching
  split
  case h_1 h => simp [h]
  case h_2 h => simp [h]
  case h_3 h => simp [h]

/-- R56: the line of a station number is an in-service line that holds it. -/
theorem Part.stationLine_holds {p : Part} {station : Nat} {target : Line} (h : p.stationLine station = some target) :
    p.lines[target].profile.inService = true ∧ p.lines[target].profile.station = station := by
  simpa only [Bool.and_eq_true, beq_iff_eq] using List.find?_some h

/-- R56, R167: with distinct station numbers an in-service line is the line of its own. -/
theorem Part.stationLine_own {p : Part} (hdistinct : p.stationsDistinct) {target : Line}
    (hin : p.lines[target].profile.inService = true) : p.stationLine p.lines[target].profile.station = some target := by
  refine find_finRange _ target (by rw [hin, beq_self_eq_true, Bool.and_self]) fun m hlt => ?_
  by_contra hm
  simp only [Bool.not_eq_false, Bool.and_eq_true, beq_iff_eq] at hm
  exact Fin.ne_of_lt hlt (hdistinct m target hm.1 hin hm.2)

/-- Settles O26: the verdict at completion, case by case of Table 3-4. -/
theorem completionVerdict : Obligations.CompletionVerdict := by
  intro p n r digits profile c refused sent
  refine ⟨Part.complete_deny n digits, fun target tens units hkind hlocal hdigits hline => ?_,
    fun tens units hkind hlocal hdigits hline => ?_, fun hkind hlocal hdigits => ?_, Part.complete_barred n digits,
    fun htrunk => ⟨fun hstar => ?_, fun decs hdecs => ?_⟩, p.localSwitching_iff,
    fun station target => Part.stationLine_holds, fun hdistinct target => Part.stationLine_own hdistinct⟩
  · exact (Part.complete_stationLocal n digits hkind hlocal).trans (Part.localVerdict_finds r c hdigits hline)
  · exact (Part.complete_stationLocal n digits hkind hlocal).trans (Part.localVerdict_noLine r c hdigits hline)
  · exact (Part.complete_stationLocal n digits hkind hlocal).trans (Part.localVerdict_noStation r c hdigits)
  · exact (Part.complete_trunk n digits htrunk).trans (trunkVerdict_refuses c hstar)
  · exact (Part.complete_trunk n digits htrunk).trans (trunkVerdict_sends c hdecs)

end Sys2Proof.Machine
end

section
/-! The installed tables that the commits check against each other (R46, R86, R167, R169): which operations leave them, what
each commit makes of them, and the statement that every step keeps them consistent. -/

namespace Sys2Proof.Machine

/-! ## The installed tables of a part -/

/-- What `State.tablesConsistent` speaks of: the profiles, the directory, the signal codes and the general configuration. -/
structure Tables where
  profiles : Line → Profile
  directory : Vector DirEntry 64
  codes : Vector (Option Word) 20
  gen : GenConfig

/-- The installed tables, of what call processing leaves alone. -/
def Fixed.tables (f : Fixed) : Tables := ⟨f.profiles, f.directory, f.codes, f.gen⟩

/-- The checks of `State.tablesConsistent`, of a part. -/
structure Part.Consistent (p : Part) : Prop where
  codes : p.codesDistinct
  entries : p.entriesDistinct
  digits : p.entriesInDigits
  stations : p.stationsDistinct
  general : p.generalInRange

theorem State.tablesConsistent_iff (s : State) : s.tablesConsistent ↔ s.part.Consistent :=
  ⟨fun ⟨hcodes, hentries, hdigits, hstations, hgeneral⟩ => ⟨hcodes, hentries, hdigits, hstations, hgeneral⟩,
    fun ⟨hcodes, hentries, hdigits, hstations, hgeneral⟩ => ⟨hcodes, hentries, hdigits, hstations, hgeneral⟩⟩

/-- The installed tables alone decide their consistency. -/
theorem Part.Consistent.congr {p q : Part} (hp : p.Consistent) (h : q.fixed.tables = p.fixed.tables) : q.Consistent := by
  have hprofile (n : Line) : q.lines[n].profile = p.lines[n].profile := congrFun (congrArg Tables.profiles h) n
  have hdirectory : q.directory = p.directory := congrArg Tables.directory h
  have hcodes : q.codes = p.codes := congrArg Tables.codes h
  have hgen : q.gen = p.gen := congrArg Tables.gen h
  constructor
  · rw [Part.codesDistinct, hcodes]; exact hp.codes
  · rw [Part.entriesDistinct, hdirectory]; exact hp.entries
  · rw [Part.entriesInDigits, hdirectory]; exact hp.digits
  · simp only [Part.stationsDistinct, hprofile]; exact hp.stations
  · rw [Part.generalInRange, hgen]; exact hp.general

/-! ## Operations that change something fixed, but no table -/

@[simp] theorem Part.setSupervisor_tables (p : Part) (n : Line) (v : Supervisor) :
    (p.setSupervisor n v).fixed.tables = p.fixed.tables := rfl

@[simp] theorem Part.takeHanded_tables (p : Part) (n : Line) : (p.takeHanded n).fixed.tables = p.fixed.tables := rfl

/-- Replacing the command unit. -/
@[simp] theorem Part.withCmd_tables (p : Part) (c : CommandUnit) :
    ({ p with cmd := c } : Part).fixed.tables = p.fixed.tables := rfl

@[simp] theorem Part.senseWrite_tables (p : Part) (n : Line) (w : Word) :
    (p.senseWrite n w).fixed.tables = p.fixed.tables := rfl

@[simp] theorem Part.onHookMin_tables (p : Part) (n : Line) : (p.onHookMin n).fixed.tables = p.fixed.tables := rfl

@[simp] theorem Part.interDigitPause_tables (p : Part) (n : Line) :
    (p.interDigitPause n).fixed.tables = p.fixed.tables := rfl

@[simp] theorem Part.writePending_tables (p : Part) (off : Nat) (w : Word) :
    (p.writePending off w).fixed.tables = p.fixed.tables := rfl

@[simp] theorem Part.linkReady_fixed (p : Part) : p.linkReady.fixed = p.fixed := Part.enterLink_fixed ..

@[simp] theorem Part.linkReadyLost_fixed (p : Part) : p.linkReadyLost.fixed = p.fixed := Part.enterLink_fixed ..

@[simp] theorem Part.startLimitExpired_fixed (p : Part) : p.startLimitExpired.fixed = p.fixed := Part.enterLink_fixed ..

@[simp] theorem Part.silenceExpired_fixed (p : Part) : p.silenceExpired.fixed = p.fixed := Part.enterLink_fixed ..

theorem Part.takeEvent_tables {act : Part → Part} (hact : ∀ q, (act q).fixed = q.fixed) (p : Part) (n : Line) :
    (p.takeEvent n act).fixed.tables = p.fixed.tables := by
  unfold Part.takeEvent
  split
  · rw [hact, Part.takeHanded_tables]
  · exact Part.takeHanded_tables p n

@[simp] theorem Part.acceptSupply_tables (p : Part) : p.acceptSupply.fixed.tables = p.fixed.tables := by
  simp only [Part.acceptSupply, Part.supplyToAllocator_fixed, apply_ite Part.fixed, Part.grantSlots_fixed, ite_self,
    Part.hand_fixed]
  rfl

theorem Part.strobe_tables (p : Part) (rrdy rwake supw : Bool) :
    (p.strobe rrdy rwake supw).fixed.tables = p.fixed.tables := by
  have hprofile (n : Line) : (p.strobe rrdy rwake supw).lines[n].profile = p.lines[n].profile := by
    simp [Part.strobe, LineRecord.tick]
  simp only [Part.fixed, Fixed.tables, hprofile]
  simp only [Part.strobe]

/-! ## The command unit and the report writer -/

@[simp] theorem Part.raiseSequence_tables (p : Part) : p.raiseSequence.fixed.tables = p.fixed.tables := rfl

@[simp] theorem Part.refuseCommand_fixed (p : Part) (code : BitVec 8) (reason : CommandResult) :
    (p.refuseCommand code reason).fixed = p.fixed := by
  rw [Part.refuseCommand, Part.requestEcho_fixed, Part.hand_fixed]

@[simp] theorem Part.short_fixed (p : Part) (c : Command) (effect : Part → Part) :
    (p.short c effect).fixed = (effect p).fixed := Part.commandEnded_fixed ..

@[simp] theorem Part.accepted_fixed (p : Part) (c : Command) : (p.accepted c).fixed = p.fixed := Part.requestEcho_fixed ..

@[simp] theorem Part.beginLong_fixed (p : Part) (c : LongCommand) : (p.beginLong c).fixed = p.fixed := rfl

@[simp] theorem Part.start_tables (p : Part) : p.start.fixed.tables = p.fixed.tables := by
  rw [Part.start, Part.linkAtStart_fixed]
  rfl

@[simp] theorem Part.handSnapshotLine_fixed (p : Part) (n : Line) : (p.handSnapshotLine n).fixed = p.fixed :=
  Part.hand_fixed ..

@[simp] theorem Part.handSnapshotChannel_fixed (p : Part) (k : Chan) : (p.handSnapshotChannel k).fixed = p.fixed :=
  Part.hand_fixed ..

@[simp] theorem Part.handSnapshotEnd_fixed (p : Part) (aborted : Bool) : (p.handSnapshotEnd aborted).fixed = p.fixed :=
  Part.hand_fixed ..

@[simp] theorem Part.continueSnapshot_fixed (p : Part) : p.continueSnapshot.fixed = p.fixed := by
  unfold Part.continueSnapshot
  split
  · unfold Part.snapshotNext
    split <;> simp
  · rfl

@[simp] theorem Part.takeDisposal_tables (p : Part) : p.takeDisposal.fixed.tables = p.fixed.tables := by
  unfold Part.takeDisposal
  split
  · rfl
  · simp only
    repeat' split
    all_goals simp

@[simp] theorem Part.snapshot_fixed (p : Part) : p.snapshot.fixed = p.fixed := by
  simp only [Part.snapshot, Part.accepted_fixed, apply_ite Part.fixed, Part.continueSnapshot_fixed, ite_self,
    Part.beginLong_fixed]

@[simp] theorem Part.requestRead_fixed (p : Part) (off : Nat) : (p.requestRead off).fixed = p.fixed := rfl

@[simp] theorem Part.continueRescan_fixed (p : Part) (off : Nat) : (p.continueRescan off).fixed = p.fixed := by
  unfold Part.continueRescan
  split
  · exact Part.requestRead_fixed ..
  · rw [Part.commandEnded_fixed]
    rfl

@[simp] theorem Part.rescan_fixed (p : Part) : p.rescan.fixed = p.fixed := by
  simp only [Part.rescan, Part.accepted_fixed, apply_ite Part.fixed, Part.requestRead_fixed, ite_self,
    Part.beginLong_fixed]

@[simp] theorem Part.clearCalls_fixed (p : Part) : p.clearCalls.fixed = p.fixed := by
  simp only [Part.clearCalls, apply_ite Part.fixed, Part.accepted_fixed, ite_self, Part.beginLong_fixed]

@[simp] theorem Part.abortLong_fixed (p : Part) : p.abortLong.fixed = p.fixed := by
  unfold Part.abortLong
  split
  · rfl
  · simp
  · rw [Part.commandEnded_fixed]
    rfl
  · rw [Part.commandEnded_fixed, Part.handSnapshotEnd_fixed]
    rfl

theorem Part.haltLine_fixed (p : Part) (n : Line) : (p.haltLine n).fixed = p.fixed := by
  unfold Part.haltLine
  split
  · rfl
  · exact Part.enterLine_fixed ..

@[simp] theorem Part.emptyQueue_fixed (p : Part) : p.emptyQueue.fixed = p.fixed := rfl

@[simp] theorem Part.emptyRing_fixed (p : Part) : p.emptyRing.fixed = p.fixed := rfl

@[simp] theorem Part.halt_tables (p : Part) : p.halt.fixed.tables = p.fixed.tables := by
  rw [Part.halt, Part.emptyRing_fixed, Part.emptyQueue_fixed, foldl_keeps (g := Part.fixed) Part.haltLine_fixed,
    foldl_keeps (g := Part.fixed) Part.haltChan_fixed, Part.linkAtHalt_fixed, Part.emptyQueue_fixed,
    ← Part.abortLong_fixed p]
  rfl

@[simp] theorem Part.lineReset_fixed (p : Part) (operand : BitVec 8) : (p.lineReset operand).fixed = p.fixed := by
  unfold Part.lineReset
  split
  · unfold Part.resetLine
    simp only
    repeat' split
    all_goals simp
  · rfl

@[simp] theorem Part.channelReset_fixed (p : Part) (operand : BitVec 8) : (p.channelReset operand).fixed = p.fixed := by
  unfold Part.channelReset
  split
  · exact Part.resetChan_fixed ..
  · rfl

@[simp] theorem Part.echoCompleted_fixed (p : Part) : p.echoCompleted.fixed = p.fixed := by
  unfold Part.echoCompleted
  simp only
  split
  · rw [Part.requestEcho_fixed]
    rfl
  · rfl

@[simp] theorem Part.headerWrite_fixed (p : Part) (x : BufferId) (w : Word) (completed : Bool) :
    (p.headerWrite x w completed).fixed = p.fixed := rfl

@[simp] theorem Part.ageExpired_fixed (p : Part) : p.ageExpired.fixed = p.fixed := Part.closeOrPend_fixed ..

theorem Part.meetExpiry_body (p : Part) : p.meetExpiry.body = p.body := by
  unfold Part.meetExpiry
  split <;> rfl

theorem Part.recordWritten_body (p : Part) (x : BufferId) (kind : RecordKind) : (p.recordWritten x kind).body = p.body := by
  unfold Part.recordWritten
  simp only
  split
  · rw [Part.closeBuffer_body]
    rfl
  · rw [Part.meetExpiry_body]
    rfl

/-- R183, R185: taking the completion of the report writer's own write changes nothing but the reports. -/
theorem Part.wordWritten_body (p : Part) : p.wordWritten.body = p.body := by
  unfold Part.wordWritten
  split
  case h_1 => rfl
  case h_2 | h_3 =>
    split
    · split
      · rw [Part.recordWritten_body]
        rfl
      · rfl
    · rfl
  case h_4 =>
    split
    · rfl
    · exact Part.writeClosing_body ..
  case h_5 => rfl

@[simp] theorem Part.wordWritten_fixed (p : Part) : p.wordWritten.fixed = p.fixed := Part.fixed_of_body p.wordWritten_body

/-! ## The commits -/

@[simp] theorem Part.commitTone_tables (p : Part) (t : ToneIx) (w : Word) :
    (p.commitTone t w).fixed.tables = p.fixed.tables := by
  unfold Part.commitTone
  split
  · rw [Part.tableRefused_fixed]
  · rfl

@[simp] theorem Part.commitCadence_tables (p : Part) (w : Word) : (p.commitCadence w).fixed.tables = p.fixed.tables := by
  unfold Part.commitCadence
  split
  · rw [Part.tableRefused_fixed]
  · rfl

/-- R39: what an install of a profile does besides is call processing. -/
theorem Part.installProfile_fixed (p : Part) (n : Line) (profile : Profile) :
    (p.installProfile n profile).fixed = (p.setLine n (p.lines[n].withProfile profile)).fixed := by
  unfold Part.installProfile
  simp only
  split
  · rw [Part.enterLine_fixed, apply_ite Part.fixed, Part.abandon_fixed, ite_self]
  · rw [apply_ite Part.fixed, Part.originate_fixed, Part.enterLine_fixed, ite_self]
  · rfl

/-- R108: a channel's configuration is in no table that the checks are about. -/
@[simp] theorem Part.commitChanConfig_fixed (p : Part) (k : Chan) (w : Word) :
    (p.commitChanConfig k w).fixed = p.fixed := by
  unfold Part.commitChanConfig
  split
  · exact Part.tableRefused_fixed ..
  · unfold Part.installChanConfig
    simp only
    repeat' split
    all_goals simp

/-- R169: the words that give a general configuration give one in range and in order. -/
theorem GenConfig.ofWords_ok {word : Nat → Word} {commit : Word} {g : GenConfig}
    (h : GenConfig.ofWords word commit = .ok g) :
    g.inRange = true ∧ g.breakMax < g.onHookMin := by
  unfold GenConfig.ofWords at h
  split at h
  · simp only at h
    split_ifs at h with hrange horder
    cases h
    exact ⟨hrange, horder⟩
  · cases h

/-! ## The commits of the records that the checks are about -/

/-- Installing a record that stands in a symmetric relation to no other one leaves a table in which only a record itself stands
in the relation to a record. -/
theorem set_keeps_distinct {α : Type} {m : Nat} {R : α → α → Prop} (hsymm : ∀ x y, R x y → R y x) {v : Vector α m}
    {i : Fin m} {x : α} (hv : ∀ a b : Fin m, R v[a] v[b] → a = b) (hx : ∀ a : Fin m, a ≠ i → ¬ R x v[a]) (a b : Fin m)
    (hab : R (v.set i.val x)[a] (v.set i.val x)[b]) : a = b := by
  simp only [getElem_set_fin] at hab
  split at hab <;> split at hab
  case isTrue.isTrue ha hb => exact ha.symm.trans hb
  case isTrue.isFalse ha hb => exact absurd hab (hx b (Ne.symm hb))
  case isFalse.isTrue ha hb => exact absurd (hsymm _ _ hab) (hx a (Ne.symm ha))
  case isFalse.isFalse => exact hv a b hab

/-- Two installed codes hold one value (R86). -/
def codesClash (c c' : Option Word) : Prop := ∃ w, c = some w ∧ c' = some w

/-- Two valid entries have the same digits (R46). -/
def DirEntry.clash (e e' : DirEntry) : Prop := e.valid = true ∧ e'.valid = true ∧ e.pfx = e'.pfx

/-- Two in-service lines have one station number (R167). -/
def LineRecord.clash (l l' : LineRecord) : Prop :=
  l.profile.inService = true ∧ l'.profile.inService = true ∧ l.profile.station = l'.profile.station

section Commit

variable {p : Part} (hp : p.Consistent)
include hp

/-- R86: a code is installed only when no other code holds its value. -/
theorem Part.Consistent.installCode (x : Code) (w : Word) : (p.installCode x w).Consistent := by
  unfold Part.installCode
  split
  · exact hp.congr (by simp)
  · rename_i hfree
    have halone (y : Code) (hne : y ≠ x) : ¬ codesClash (some w) p.codes[y] := fun ⟨v, hw, hy⟩ =>
      hfree (List.any_eq_true.mpr ⟨y, List.mem_finRange y, by simp [hne, hy, Option.some.inj hw]⟩)
    exact { hp with
      codes := fun y z v hy hz => set_keeps_distinct (fun _ _ ⟨v, h, h'⟩ => ⟨v, h', h⟩)
        (fun a b ⟨v, ha, hb⟩ => hp.codes a b v ha hb) halone y z ⟨v, hy, hz⟩ }

/-- R46: a valid entry is installed only with digits that no other valid entry has. -/
theorem Part.Consistent.commitEntry (d : EntryIx) (w : Word) : (p.commitEntry d w).Consistent := by
  cases hrefusal : p.entryRefusal d (p.entryOfWords d w) with
  | some reason =>
    rw [Part.commitEntry_refused hrefusal]
    exact hp.congr (by simp)
  | none =>
    rw [Part.commitEntry_installs hrefusal]
    have halone (i : EntryIx) (hne : i ≠ d) : ¬ (p.entryOfWords d w).clash p.directory[i] := fun ⟨hvalid, hi, hpfx⟩ =>
      (p.duplicatePfx_eq_false_iff d _).mp (Part.entryRefusal_none hrefusal hvalid).2 i hne hi hpfx.symm
    have hdigits (hvalid : (p.entryOfWords d w).valid = true) : ∀ x ∈ (p.entryOfWords d w).pfx, x ≤ 11 := by
      obtain ⟨-, -, hdigits, -⟩ := (DirEntry.rangeOk_iff _).mp (Part.entryRefusal_none hrefusal hvalid).1
      exact hdigits
    refine { hp with
      entries := fun i j hi hj hij => set_keeps_distinct (fun _ _ ⟨h, h', hpfx⟩ => ⟨h', h, hpfx.symm⟩)
        (fun a b ⟨ha, hb, hab⟩ => hp.entries a b ha hb hab) halone i j ⟨hi, hj, hij⟩
      digits := fun i => ?_ }
    rw [getElem_set_fin]
    split
    · exact hdigits
    · exact hp.digits i

/-- R167: a profile is installed in service only with a station number that no other in-service profile holds. -/
theorem Part.Consistent.commitProfile (n : Line) (w : Word) : (p.commitProfile n w).Consistent := by
  cases hwords : Profile.ofWords (p.copy (profileOffset n 0)) (p.copy (profileOffset n 1)) (p.copy (profileOffset n 2)) w with
  | error reason =>
    rw [Part.commitProfile_error hwords]
    exact hp.congr (by simp)
  | ok profile =>
    by_cases htwice : profile.inService = true ∧ p.stationTaken n profile.station = true
    · rw [Part.commitProfile_duplicate hwords htwice.1 htwice.2]
      exact hp.congr (by simp)
    · have hfree (hin : profile.inService = true) : ¬ p.stationTaken n profile.station = true := fun h => htwice ⟨hin, h⟩
      have halone (m : Line) (hne : m ≠ n) : ¬ (p.lines[n].withProfile profile).clash p.lines[m] := fun ⟨hin, hm, hs⟩ =>
        hfree hin ((p.stationTaken_iff n _).mpr ⟨m, hne, hm, hs.symm⟩)
      rw [Part.commitProfile_installs hwords ((Bool.eq_false_or_eq_true _).symm.imp_right hfree)]
      have hset : (p.setLine n (p.lines[n].withProfile profile)).Consistent := { hp with
        stations := fun i j hi hj hij => set_keeps_distinct (fun _ _ ⟨h, h', hs⟩ => ⟨h', h, hs.symm⟩)
          (fun a b ⟨ha, hb, hab⟩ => hp.stations a b ha hb hab) halone i j ⟨hi, hj, hij⟩ }
      exact hset.congr (congrArg _ (Part.installProfile_fixed p n profile))

/-- R169: a general configuration is installed only in range and in order. -/
theorem Part.Consistent.commitGeneral (w : Word) : (p.commitGeneral w).Consistent := by
  unfold Part.commitGeneral
  split
  · exact hp.congr (by simp)
  · rename_i g hg
    have hset : ({ p with gen := g } : Part).Consistent := { hp with general := GenConfig.ofWords_ok hg }
    exact hset.congr (congrArg _ (by simp [Part.installGeneral]))

/-- R166, R177: every word of a table record, as a master writes it or RESCAN replays it, keeps the tables consistent. -/
theorem Part.Consistent.tableWord (off : Nat) (w : Word) : (p.tableWord off w).Consistent := by
  unfold Part.tableWord
  split
  · exact hp.congr (p.writePending_tables off w)
  split
  · split
    · exact hp.installCode _ w
    · exact hp
  split
  · split
    · exact hp.commitProfile _ w
    · exact hp
  split
  · split
    · exact hp.congr (congrArg _ (p.commitChanConfig_fixed _ w))
    · exact hp
  split
  · exact hp.commitGeneral w
  split
  · split
    · exact hp.congr (p.commitTone_tables _ w)
    · exact hp
  split
  · exact hp.congr (p.commitCadence_tables w)
  split
  · exact hp.commitEntry _ w
  · exact hp

/-- R177: taking the completion of a read replays its word at most. -/
theorem Part.Consistent.takeRead (w : Word) : (p.takeRead w).Consistent := by
  unfold Part.takeRead
  split
  · exact hp
  · split
    · exact hp.congr (by split <;> simp)
    · exact (hp.tableWord _ w).congr (congrArg _ (Part.continueRescan_fixed ..))

end Commit

/-! ## Every event, and every step -/

/-- Every event of a block keeps the tables consistent: a commit by its checks, any other event by leaving them. -/
theorem Part.Event.consistent {p q : Part} (h : Part.Event p q) (hp : p.Consistent) : q.Consistent := by
  cases h with
  | installCode x w => exact hp.installCode x w
  | commitEntry d w => exact hp.commitEntry d w
  | commitProfile n w => exact hp.commitProfile n w
  | commitGeneral w => exact hp.commitGeneral w
  | takeRead w => exact hp.takeRead w
  | offHook n => exact hp.congr (Part.takeEvent_tables (Part.offHook_fixed · n) p n)
  | onHook n => exact hp.congr (Part.takeEvent_tables (Part.onHook_fixed · n) p n)
  | digit n d => exact hp.congr (Part.takeEvent_tables (Part.dialDigit_fixed · n d) p n)
  | misdial n => exact hp.congr (Part.takeEvent_tables (Part.misdial_fixed · n) p n)
  | _ => exact hp.congr (by simp)

theorem Part.reset_consistent : Part.reset.Consistent where
  codes x y w hx _ := nomatch (State.reset_code x).symm.trans hx
  entries d e hd _ _ := nomatch (congrArg DirEntry.valid (State.reset_entry d)).symm.trans hd
  digits d hd := nomatch (congrArg DirEntry.valid (State.reset_entry d)).symm.trans hd
  stations m n hm _ _ := nomatch (congrArg (·.profile.inService) (State.reset_line m)).symm.trans hm
  general := ⟨by decide, by decide⟩

/-- Settles O59, by the induction over a command: no event, strobe or reset leaves the tables inconsistent. -/
theorem tablesConsistentKept : Obligations.TablesConsistentKept := by
  intro s t hs hstep
  rw [State.tablesConsistent_iff] at hs ⊢
  unfold step at hstep
  split at hstep
  · cases hstep
    exact hs
  · rename_i i rest _
    exact exec_inv (s := { s with pending := rest }) Part.reset_consistent (fun _ => Part.reset_consistent.congr rfl)
      (fun p q hp hevent => (hevent.consistent hp).congr (congrArg _ (Part.fixed_of_body (Part.settled_body q))))
      (fun p r w u hp => hp.congr (p.strobe_tables r w u)) hs hstep

end Sys2Proof.Machine
end

section
/-! The channel record on entering a state, what a channel's entry brings about elsewhere in the part, and then the statement
about entering and clearing a channel (R63, R73, R83 to R85, R101, R113, R121). -/

namespace Sys2Proof.Machine

/-! ## Classes of channel states -/

theorem ChanState.quiet_iff (st : ChanState) :
    st.quiet = true ↔ st = .idle ∨ st = .offline ∨ st = .fault ∨ st = .blockedFar := by
  cases st <;> decide

theorem ChanState.clearable_iff (st : ChanState) :
    st.clearable = true ↔ st = .seizing ∨ st = .sending ∨ st = .awaitAnswer ∨ st = .incoming ∨ st = .ringingIn ∨
      st = .talk := by
  cases st <;> decide

/-! ## The channel record on entering a state (R83 to R85) -/

/-- R84: a draining channel bound for a state without a call goes OFFLINE instead. -/
theorem ChanRecord.destination_eq (c : ChanRecord) (wanted : ChanState) :
    c.destination wanted =
      if c.draining = true ∧ (wanted = .idle ∨ wanted = .fault ∨ wanted = .blockedFar) then .offline else wanted := by
  simp only [ChanRecord.destination, Bool.and_eq_true, Bool.or_eq_true, beq_iff_eq, or_assoc]

theorem ChanRecord.destination_call (c : ChanRecord) {wanted : ChanState} (h : wanted.quiet = false) :
    c.destination wanted = wanted := by
  rw [ChanRecord.destination_eq]
  refine if_neg fun ⟨_, hrest⟩ => ?_
  rcases hrest with rfl | rfl | rfl <;> exact nomatch h

section Enter

variable {c : ChanRecord} {wanted : ChanState} {reject : Option RejectCode}

/-- The stall timer of a channel that goes to a state other than OFFLINE. -/
def ChanRecord.stallOnEntry (c : ChanRecord) : Timer :=
  if c.state = .offline ∧ c.config.stallWatch = true then .started else c.stall

theorem ChanRecord.enter_offline (h : c.destination wanted = .offline) :
    c.enter wanted reject = { c with
      state := .offline, timer := .stopped, reject := none, direction := none, callClass := none, partner := none
      sendList := [], sendPosition := 0, sendPhase := .digit, received := [], accepted := none, candidate := none, run := 0
      draining := false, stall := .stopped } := by
  unfold ChanRecord.enter
  rw [h]
  rfl

/-- The other states without a call. -/
theorem ChanRecord.enter_quiet (h : (c.destination wanted).quiet = true) (hne : c.destination wanted ≠ .offline) :
    c.enter wanted reject = { c with
      state := c.destination wanted, timer := c.timerOnEntry (c.destination wanted), reject := none
      direction := none, callClass := none, partner := none, sendList := [], sendPosition := 0, sendPhase := .digit
      received := [], stall := c.stallOnEntry } := by
  have hrej : c.destination wanted ≠ .rejecting := fun hr => by rw [hr] at h; cases h
  simp only [ChanRecord.enter, ChanRecord.emptied, ChanRecord.stallOnEntry, h, hne, hrej, ne_eq, not_false_eq_true, true_and,
    if_true, if_false]

/-- The states of a call. -/
theorem ChanRecord.enter_call (h : (c.destination wanted).quiet = false) :
    c.enter wanted reject = { c with
      state := c.destination wanted, timer := c.timerOnEntry (c.destination wanted)
      reject := if c.destination wanted = .rejecting then reject else none
      sendPhase := if c.destination wanted = .sending then .digit else c.sendPhase, stall := c.stallOnEntry } := by
  have hne : c.destination wanted ≠ .offline := fun ho => by rw [ho] at h; cases h
  simp only [ChanRecord.enter, ChanRecord.stallOnEntry, h, hne, ne_eq, not_false_eq_true, true_and, Bool.false_eq_true,
    if_false]

variable (c wanted reject)

/-- The three kinds of destination: OFFLINE, another state without a call, a state of a call. -/
theorem ChanRecord.destination_kinds :
    c.destination wanted = .offline ∨ ((c.destination wanted).quiet = true ∧ c.destination wanted ≠ .offline) ∨
      (c.destination wanted).quiet = false := by
  cases c.destination wanted <;> decide

/-- What no entry changes, and what every entry sets. -/
theorem ChanRecord.enter_always :
    (c.enter wanted reject).config = c.config ∧ (c.enter wanted reject).linkChanges = c.linkChanges ∧
      (c.enter wanted reject).timer = c.timerOnEntry (c.destination wanted) ∧
      (c.enter wanted reject).reject = if c.destination wanted = .rejecting then reject else none := by
  rcases c.destination_kinds wanted with h | ⟨h, hne⟩ | h
  · rw [ChanRecord.enter_offline h, h]
    exact ⟨rfl, rfl, rfl, rfl⟩
  · have hrej : c.destination wanted ≠ .rejecting := fun hr => by rw [hr] at h; cases h
    rw [ChanRecord.enter_quiet h hne, if_neg hrej]
    exact ⟨rfl, rfl, rfl, rfl⟩
  · rw [ChanRecord.enter_call h]
    exact ⟨rfl, rfl, rfl, rfl⟩

variable {c wanted}

/-- R83: every state without a call clears the call. -/
theorem ChanRecord.enter_clears_call (h : (c.destination wanted).quiet = true) :
    (c.enter wanted reject).direction = none ∧ (c.enter wanted reject).callClass = none ∧
      (c.enter wanted reject).partner = none ∧ (c.enter wanted reject).sendList = [] ∧
      (c.enter wanted reject).received = [] := by
  by_cases hoff : c.destination wanted = .offline
  · rw [ChanRecord.enter_offline hoff]
    exact ⟨rfl, rfl, rfl, rfl, rfl⟩
  · rw [ChanRecord.enter_quiet h hoff]
    exact ⟨rfl, rfl, rfl, rfl, rfl⟩

theorem ChanRecord.enter_keeps_call (h : (c.destination wanted).quiet = false) :
    (c.enter wanted reject).direction = c.direction ∧ (c.enter wanted reject).callClass = c.callClass ∧
      (c.enter wanted reject).partner = c.partner ∧ (c.enter wanted reject).sendList = c.sendList ∧
      (c.enter wanted reject).received = c.received ∧ (c.enter wanted reject).sendPosition = c.sendPosition := by
  rw [ChanRecord.enter_call h]
  exact ⟨rfl, rfl, rfl, rfl, rfl, rfl⟩

theorem ChanRecord.enter_sending (h : c.destination wanted = .sending) : (c.enter wanted reject).sendPhase = .digit := by
  rw [ChanRecord.enter_call (by rw [h]; decide)]
  exact if_pos h

/-- R83: OFFLINE clears the far code, its run, draining and the stall timer. -/
theorem ChanRecord.enter_clears_far_code (h : c.destination wanted = .offline) :
    (c.enter wanted reject).accepted = none ∧ (c.enter wanted reject).candidate = none ∧
      (c.enter wanted reject).run = 0 ∧ (c.enter wanted reject).draining = false ∧
      (c.enter wanted reject).stall = .stopped := by
  rw [ChanRecord.enter_offline h]
  exact ⟨rfl, rfl, rfl, rfl, rfl⟩

/-- Outside OFFLINE the far code, its run and draining stay, and the stall timer starts when OFFLINE is left watched. -/
theorem ChanRecord.enter_keeps_far_code (h : c.destination wanted ≠ .offline) :
    (c.enter wanted reject).accepted = c.accepted ∧ (c.enter wanted reject).candidate = c.candidate ∧
      (c.enter wanted reject).run = c.run ∧ (c.enter wanted reject).draining = c.draining ∧
      (c.enter wanted reject).stall = c.stallOnEntry := by
  cases hquiet : (c.destination wanted).quiet with
  | true =>
    rw [ChanRecord.enter_quiet hquiet h]
    exact ⟨rfl, rfl, rfl, rfl, rfl⟩
  | false =>
    rw [ChanRecord.enter_call hquiet]
    exact ⟨rfl, rfl, rfl, rfl, rfl⟩

end Enter

/-- Table 5-4: the states whose timer starts at entry, whatever the far code. -/
theorem ChanRecord.timerOnEntry_started (c : ChanRecord) {st : ChanState}
    (h : st = .seizing ∨ st = .sending ∨ st = .incoming ∨ st = .rejecting ∨ st = .clearing ∨ st = .releasing) :
    c.timerOnEntry st = .started := by
  rcases h with rfl | rfl | rfl | rfl | rfl | rfl <;> rfl

/-- Table 5-4: the states without a timer. -/
theorem ChanRecord.timerOnEntry_stopped (c : ChanRecord) {st : ChanState}
    (h : st = .offline ∨ st = .idle ∨ st = .awaitAnswer ∨ st = .ringingIn ∨ st = .talk ∨ st = .blockedFar) :
    c.timerOnEntry st = .stopped := by
  rcases h with rfl | rfl | rfl | rfl | rfl | rfl <;> rfl

/-! ## The occupancy list (R63) -/

section Occupancy

variable (list : List Chan) (k : Chan) {old new : ChanState}

theorem occupancyAfter_quiet (h : new.quiet = true) : occupancyAfter list k old new = list.filter (· != k) := if_pos h

theorem occupancyAfter_taken (hold : old = .idle) (hnew : new = .seizing ∨ new = .incoming) :
    occupancyAfter list k old new = list ++ [k] := by
  have hquiet : ¬ new.quiet = true := by rcases hnew with rfl | rfl <;> decide
  unfold occupancyAfter
  rw [if_neg hquiet, if_pos ⟨hold, hnew⟩]

theorem occupancyAfter_same (hquiet : new.quiet = false) (h : old ≠ .idle ∨ (new ≠ .seizing ∧ new ≠ .incoming)) :
    occupancyAfter list k old new = list := by
  have htaken : ¬ (old = .idle ∧ (new = .seizing ∨ new = .incoming)) := by tauto
  unfold occupancyAfter
  rw [if_neg (Bool.eq_false_iff.1 hquiet), if_neg htaken]

end Occupancy

/-! ## The conditions judged at a channel event -/

/-- R62: which channels are usable is decided by the channels and the link state. -/
theorem Part.maskUsable_congr {p q : Part} (hchans : p.chans = q.chans) (hlink : p.link.state = q.link.state)
    (mask : BitVec 16) : p.maskUsable mask = q.maskUsable mask := by
  unfold Part.maskUsable Part.usable
  rw [hchans, hlink]

/-- R121: the conditions of the silence timer leave the timer itself out. -/
theorem Part.silenceHolds_congr {p q : Part} (hchans : p.chans = q.chans) (hgen : p.gen = q.gen)
    (hstate : p.link.state = q.link.state) (horigin : p.link.origin = q.link.origin) :
    p.silenceHolds = q.silenceHolds := by
  unfold Part.silenceHolds
  rw [hchans, hgen, hstate, horigin]

/-- R73: an entry's unusable timer stops when its mask has a usable channel, and else runs. -/
theorem WaitEntry.judged_eq (e : WaitEntry) (usable : Bool) :
    e.judged usable = { e with
      unusableTimer := if usable = true then .stopped
        else if e.unusableTimer.running = true then e.unusableTimer else .started } := by
  unfold WaitEntry.judged
  split
  · rfl
  · split <;> rfl

@[simp] theorem Part.judgeUnusable_outbox (p : Part) : p.judgeUnusable.outbox = p.outbox := by
  simp only [Part.judgeUnusable]

@[simp] theorem Part.judgeSilence_outbox (p : Part) : p.judgeSilence.outbox = p.outbox := by
  simp only [Part.judgeSilence]

@[simp] theorem Part.restartSilence_outbox (p : Part) : p.restartSilence.outbox = p.outbox := by
  unfold Part.restartSilence; split <;> rfl

theorem Part.judgeUnusable_waiter (p : Part) (n : Line) :
    p.judgeUnusable.alloc.waiters[n] = (p.alloc.waiters[n]).map fun e => e.judged (p.maskUsable e.mask) := by
  simp only [Part.judgeUnusable, Fin.getElem_fin, Vector.getElem_ofFn]

theorem Part.judgeUnusable_occupancy (p : Part) : p.judgeUnusable.alloc.occupancy = p.alloc.occupancy := by
  simp only [Part.judgeUnusable]

theorem Part.judgeSilence_silence (p : Part) :
    p.judgeSilence.link = { p.link with
      silence := if p.silenceHolds = true then (if p.link.silence.running = true then p.link.silence else .started)
        else .stopped } := by
  simp only [Part.judgeSilence]

theorem Part.restartSilence_silence (p : Part) :
    p.restartSilence.link = { p.link with
      silence := if p.link.silence.running = true then .started else p.link.silence } := by
  unfold Part.restartSilence; split <;> rfl

/-! ## A channel enters a state -/

section EnterChan

variable (p : Part) (k : Chan) (wanted : ChanState) (reject : Option RejectCode)

theorem Part.enterChan_self : (p.enterChan k wanted reject).chans[k] = p.chans[k].enter wanted reject := by
  rw [Part.enterChan_chans, getElem_set_fin_same]

variable {k} in
theorem Part.enterChan_ne {j : Chan} (h : j ≠ k) : (p.enterChan k wanted reject).chans[j] = p.chans[j] := by
  rw [Part.enterChan_chans, getElem_set_fin, if_neg h.symm]

/-- An entry before anything is judged afresh: the record, the CHANNEL-STATE record and the occupancy list. -/
def Part.chanEntered (p : Part) (k : Chan) (wanted : ChanState) (reject : Option RejectCode) : Part :=
  let q := (p.setChan k (p.chans[k].enter wanted reject)).handChanState k
  { q with alloc := { q.alloc with
      occupancy := occupancyAfter q.alloc.occupancy k p.chans[k].state (p.chans[k].destination wanted) } }

/-- R121: the entry takes an IDLE channel to another state without a call, which restarts the silence timer. -/
def ChanRecord.restsElsewhere (c : ChanRecord) (wanted : ChanState) : Bool :=
  c.state = .idle ∧ (c.destination wanted).quiet ∧ c.destination wanted ≠ .idle

theorem ChanRecord.restsElsewhere_iff (c : ChanRecord) :
    c.restsElsewhere wanted = true ↔
      c.state = .idle ∧ (c.destination wanted).quiet = true ∧ c.destination wanted ≠ .idle := decide_eq_true_iff

theorem Part.enterChan_eq :
    p.enterChan k wanted reject =
      if p.chans[k].restsElsewhere wanted = true
      then (p.chanEntered k wanted reject).judgeUnusable.judgeSilence.restartSilence
      else (p.chanEntered k wanted reject).judgeUnusable.judgeSilence := by
  have hnew : (((p.setChan k (p.chans[k].enter wanted reject)).handChanState k).chans[k]).state =
      p.chans[k].destination wanted := by
    rw [Part.handChanState, Part.hand_chans, Part.setChan_chans, getElem_set_fin_same, ChanRecord.enter_state]
  unfold Part.enterChan
  simp only [hnew, ChanRecord.restsElsewhere_iff]
  rfl

/-- What an entry leaves is, but for the link, what the judging of the unusable timers leaves. -/
theorem Part.enterChan_field {α : Type} (field : Part → α) (hsilence : ∀ q : Part, field q.judgeSilence = field q)
    (hrestart : ∀ q : Part, field q.restartSilence = field q) :
    field (p.enterChan k wanted reject) = field (p.chanEntered k wanted reject).judgeUnusable := by
  rw [Part.enterChan_eq]
  split
  · rw [hrestart, hsilence]
  · rw [hsilence]

theorem Part.chanEntered_chans :
    (p.chanEntered k wanted reject).chans = (p.enterChan k wanted reject).chans := by
  rw [Part.enterChan_chans]
  exact Part.hand_chans ..

theorem Part.chanEntered_link : (p.chanEntered k wanted reject).link = p.link := Part.hand_link ..

theorem Part.chanEntered_gen : (p.chanEntered k wanted reject).gen = p.gen := Part.hand_gen ..

theorem Part.chanEntered_alloc :
    (p.chanEntered k wanted reject).alloc = { p.alloc with
      occupancy := occupancyAfter p.alloc.occupancy k p.chans[k].state (p.chans[k].destination wanted) } := by
  simp only [Part.chanEntered, Part.handChanState, Part.hand_alloc, Part.setChan_alloc]

/-- R121: the silence timer after an entry. -/
theorem Part.enterChan_link :
    (p.enterChan k wanted reject).link = { p.link with
      silence :=
        if (p.enterChan k wanted reject).silenceHolds = true then
          if p.chans[k].restsElsewhere wanted = true ∨ p.link.silence.running = false then .started else p.link.silence
        else .stopped } := by
  have hholds : (p.enterChan k wanted reject).silenceHolds = (p.chanEntered k wanted reject).silenceHolds := by
    have hgen : (p.enterChan k wanted reject).gen = (p.chanEntered k wanted reject).gen := by
      rw [Part.enterChan_gen, Part.chanEntered_gen]
    refine Part.silenceHolds_congr (Part.chanEntered_chans ..).symm hgen ?_ ?_ <;>
    · rw [Part.enterChan_eq]
      split <;> simp only [Part.restartSilence_silence, Part.judgeSilence_silence, Part.judgeUnusable_link]
  have hjudged : (p.chanEntered k wanted reject).judgeUnusable.silenceHolds = (p.chanEntered k wanted reject).silenceHolds :=
    Part.silenceHolds_congr (Part.judgeUnusable_chans _) (Part.judgeUnusable_gen _) (by rw [Part.judgeUnusable_link])
      (by rw [Part.judgeUnusable_link])
  have hjudgedLink : (p.chanEntered k wanted reject).judgeUnusable.judgeSilence.link = { p.link with
      silence := if (p.chanEntered k wanted reject).silenceHolds = true
        then (if p.link.silence.running = true then p.link.silence else .started) else .stopped } := by
    rw [Part.judgeSilence_silence, hjudged, Part.judgeUnusable_link, Part.chanEntered_link]
  rw [hholds, Part.enterChan_eq]
  cases hrests : p.chans[k].restsElsewhere wanted with
  | false =>
    rw [if_neg Bool.false_ne_true, hjudgedLink]
    simp only [Bool.false_eq_true, false_or]
    cases p.link.silence.running <;> rfl
  | true =>
    rw [if_pos rfl, Part.restartSilence_silence, hjudgedLink]
    simp only [true_or, if_true]
    cases (p.chanEntered k wanted reject).silenceHolds with
    | false => rfl
    | true =>
      cases hrunning : p.link.silence.running with
      | false => rfl
      | true => simp only [hrunning, if_true]

theorem Part.enterChan_alloc :
    (p.enterChan k wanted reject).alloc = (p.chanEntered k wanted reject).judgeUnusable.alloc :=
  Part.enterChan_field p k wanted reject Part.alloc Part.judgeSilence_alloc Part.restartSilence_alloc

/-- R63: the occupancy list after an entry. -/
theorem Part.enterChan_occupancy :
    (p.enterChan k wanted reject).alloc.occupancy =
      occupancyAfter p.alloc.occupancy k p.chans[k].state (p.chans[k].destination wanted) := by
  rw [Part.enterChan_alloc, Part.judgeUnusable_occupancy, Part.chanEntered_alloc]

/-- R73: every entry's mask is judged afresh, by the channels as they then are. -/
theorem Part.enterChan_waiter (n : Line) :
    (p.enterChan k wanted reject).alloc.waiters[n] =
      (p.alloc.waiters[n]).map fun e => e.judged ((p.enterChan k wanted reject).maskUsable e.mask) := by
  have husable : ∀ mask, (p.enterChan k wanted reject).maskUsable mask = (p.chanEntered k wanted reject).maskUsable mask :=
    Part.maskUsable_congr (Part.chanEntered_chans ..).symm (by rw [Part.enterChan_link, Part.chanEntered_link])
  rw [Part.enterChan_alloc, Part.judgeUnusable_waiter, Part.chanEntered_alloc]
  simp only [husable]

@[simp] theorem Part.enterChan_cmd : (p.enterChan k wanted reject).cmd = p.cmd := by
  rw [Part.enterChan_field p k wanted reject Part.cmd Part.judgeSilence_cmd Part.restartSilence_cmd,
    Part.judgeUnusable_cmd]
  exact Part.hand_cmd ..

@[simp] theorem Part.enterChan_outbox : (p.enterChan k wanted reject).outbox = p.outbox := by
  rw [Part.enterChan_field p k wanted reject Part.outbox Part.judgeSilence_outbox Part.restartSilence_outbox,
    Part.judgeUnusable_outbox]
  exact Part.hand_outbox ..

/-- R113: the CHANNEL-STATE record of an entry. -/
theorem Part.enterChan_report :
    (p.enterChan k wanted reject).report = (p.hand .chanState (.chan k)
      (detail3 (p.chans[k].destination wanted).item
        (optItem4 Direction.item4 (p.enterChan k wanted reject).chans[k].direction)
        (optItem4 CallClass.item4 (p.enterChan k wanted reject).chans[k].callClass))
      (lineDetail (p.enterChan k wanted reject).chans[k].partner)).report := by
  rw [Part.enterChan_field p k wanted reject Part.report Part.judgeSilence_report Part.restartSilence_report,
    Part.judgeUnusable_report, Part.enterChan_self]
  unfold Part.chanEntered Part.handChanState
  simp only [Part.setChan_chans, getElem_set_fin_same, ChanRecord.enter_state]
  exact Part.hand_report_congr _ _ _ _ rfl rfl rfl

end EnterChan

/-! ## A channel is told to clear (R101) -/

section ClearChan

variable {p : Part} {k : Chan}

/-- A channel that is told to clear: the partnership broken and the channel in CLEARING. -/
def Part.toldToClear (p : Part) (k : Chan) : Part := (p.breakChan k).enterChan k .clearing

theorem Part.breakChan_accepted (p : Part) (k : Chan) : (p.breakChan k).chans[k].accepted = p.chans[k].accepted := by
  cases h : p.chans[k].partner with
  | none => simp only [Part.breakChan, h]
  | some n => rw [Part.breakChan_self h]

theorem Part.toldToClear_accepted (p : Part) (k : Chan) :
    (p.toldToClear k).chans[k].accepted = p.chans[k].accepted := by
  have hdest : (p.breakChan k).chans[k].destination .clearing = .clearing := ChanRecord.destination_call _ rfl
  obtain ⟨haccepted, -⟩ := ChanRecord.enter_keeps_far_code (reject := none) (by rw [hdest]; decide :
    (p.breakChan k).chans[k].destination .clearing ≠ .offline)
  rw [Part.toldToClear, Part.enterChan_self, haccepted, Part.breakChan_accepted]

theorem Part.clearChan_noCall (h : p.chans[k].state.clearable = false) : p.clearChan k = p :=
  if_neg (by rw [h]; decide)

/-- R101: where a channel with a call goes is decided by its far code. -/
theorem Part.clearChan_call (h : p.chans[k].state.clearable = true) :
    p.clearChan k =
      if p.chans[k].accepted = some SignalCode.idle.toCode then ((p.toldToClear k).enterChan k .idle).leave k
      else if p.chans[k].accepted = some SignalCode.clear.toCode then (p.toldToClear k).enterChan k .releasing
      else p.toldToClear k := by
  rw [← Part.toldToClear_accepted]
  exact if_pos h

end ClearChan

/-- Settles O36: the record by the kind of its destination, then what the entry brings about elsewhere; and the channel
told to clear by its far code. -/
theorem enteringAndClearingAChannel : Obligations.EnteringAndClearingAChannel := by
  refine ⟨?enters, ?clears⟩
  case enters =>
    intro p k wanted reject q c d state rests
    have hself : d = c.enter wanted reject := Part.enterChan_self ..
    have hstate : c.destination wanted = state := ChanRecord.destination_eq ..
    have hrests : rests ↔ state.quiet = true := (ChanState.quiet_iff state).symm
    have hcall : ¬ rests → state.quiet = false := fun h => Bool.eq_false_iff.2 (h ∘ hrests.2)
    have hrestsElsewhere : c.restsElsewhere wanted = true ↔ c.state = .idle ∧ rests ∧ state ≠ .idle := by
      rw [ChanRecord.restsElsewhere_iff, hstate, hrests]
    have hlink := Part.enterChan_link p k wanted reject
    have hreport := Part.enterChan_report p k wanted reject
    have hoccupancy := Part.enterChan_occupancy p k wanted reject
    obtain ⟨hconfig, hchanges, htimer, hreject⟩ := ChanRecord.enter_always c wanted reject
    rw [← hself, hstate] at htimer hreject
    rw [hstate] at hoccupancy hreport
    refine ⟨by rw [hself, ChanRecord.enter_state, hstate], hself ▸ hconfig, hself ▸ hchanges, hreject, ?clearsCall,
      ?keepsCall, ?sending, ?clearsFarCode, ?keepsFarCode, fun h => htimer.trans (ChanRecord.timerOnEntry_started c h), ?fault,
      fun h => htimer.trans (ChanRecord.timerOnEntry_stopped c h), ?leavesList, ?joinsList, ?keepsList, ?waiters, ?link,
      ?silenceStops, ?silenceRuns, ?queue, hreport, Part.enterChan_cmd .., Part.enterChan_outbox ..,
      fun j hj => Part.enterChan_ne p wanted reject hj, Part.enterChan_alloc_pointers .., Part.enterChan_sup ..,
      Part.enterChan_lines .., Part.enterChan_directory .., Part.enterChan_codes .., Part.enterChan_supply ..,
      Part.enterChan_ring .., Part.enterChan_tone .., Part.enterChan_copies .., Part.enterChan_gen ..,
      Part.enterChan_clock ..⟩
    case clearsCall =>
      intro h
      obtain ⟨hdir, hclass, hpartner, hlist, hreceived⟩ :=
        ChanRecord.enter_clears_call (c := c) (wanted := wanted) reject (by rw [hstate, hrests.1 h])
      rw [hself, hdir, hclass, hpartner, hlist, hreceived]
    case keepsCall =>
      intro h
      obtain ⟨hdir, hclass, hpartner, hlist, hreceived, hposition⟩ :=
        ChanRecord.enter_keeps_call (c := c) (wanted := wanted) reject (by rw [hstate, hcall h])
      rw [hself, hdir, hclass, hpartner, hlist, hreceived, hposition]
    case sending =>
      intro h
      rw [hself, ChanRecord.enter_sending reject (hstate.trans h)]
    case clearsFarCode =>
      intro h
      obtain ⟨haccepted, hcandidate, hrun, hdraining, hstall⟩ :=
        ChanRecord.enter_clears_far_code (c := c) reject (hstate.trans h)
      rw [hself, haccepted, hcandidate, hrun, hdraining, hstall]
      rfl
    case keepsFarCode =>
      intro h
      obtain ⟨haccepted, hcandidate, hrun, hdraining, hstall⟩ :=
        ChanRecord.enter_keeps_far_code (c := c) (wanted := wanted) reject (by rwa [hstate])
      rw [hself, haccepted, hcandidate, hrun, hdraining, hstall]
      exact ⟨rfl, rfl⟩
    case fault =>
      intro h
      rw [htimer, h]
      rfl
    case leavesList => exact fun h => hoccupancy.trans (occupancyAfter_quiet _ _ (hrests.1 h))
    case joinsList => exact fun hidle h => hoccupancy.trans (occupancyAfter_taken _ _ hidle h)
    case keepsList => exact fun h hsame => hoccupancy.trans (occupancyAfter_same _ _ (hcall h) hsame)
    case waiters =>
      intro n
      rw [Part.enterChan_waiter]
      simp only [WaitEntry.judged_eq]
      rfl
    case link => exact hlink.trans (by rw [hlink])
    case silenceStops =>
      intro h
      rw [hlink]
      exact if_neg (Bool.eq_false_iff.1 h)
    case silenceRuns =>
      intro h
      rw [hlink, ← hrestsElsewhere]
      exact ⟨fun hstart => (if_pos h).trans (if_pos hstart),
        fun hstays hrun => (if_pos h).trans (if_neg (not_or.2 ⟨hstays, by rw [hrun]; decide⟩))⟩
    case queue =>
      intro henabled hroom
      rw [hreport, Part.hand_queue_room _ _ _ henabled hroom]
  case clears =>
    intro p k c told carries
    have hcarries : carries ↔ c.state.clearable = true := (ChanState.clearable_iff c.state).symm
    refine ⟨fun h => Part.clearChan_noCall (Bool.eq_false_iff.2 (h ∘ hcarries.2)), fun h hidle => ?_, fun h hclear => ?_,
      fun h hidle hclear => ?_⟩ <;> rw [Part.clearChan_call (hcarries.1 h)]
    · exact if_pos hidle
    · rw [if_neg, if_pos hclear]
      · rfl
      · rw [hclear]; decide
    · rw [if_neg hidle, if_neg hclear]
      rfl

end Sys2Proof.Machine
end

section
/-! The grant of a channel to the entry of a line, and then the statement about it (R63, R64, R71, R91). -/

namespace Sys2Proof.Machine

/-! ## The grant pointers (R64) -/

theorem GrantPointers.moved_same (g : GrantPointers) (c : CallClass) (n : Line) : (g.moved c n).pointer c = some n := by
  cases c <;> rfl

theorem GrantPointers.moved_ne (g : GrantPointers) {c d : CallClass} (n : Line) (h : d ≠ c) :
    (g.moved c n).pointer d = g.pointer d := by
  cases c with
  | normal => cases d with
    | normal => exact absurd rfl h
    | _ => rfl
  | priority => cases d with
    | priority => exact absurd rfl h
    | _ => rfl
  | emergency => cases d with
    | emergency => exact absurd rfl h
    | _ => rfl

/-! ## The line and the channel of a grant -/

/-- A line that goes to TRUNK-SETUP on a channel, as caller. -/
theorem LineRecord.enter_trunkSetup (l : LineRecord) (k : Chan) :
    (l.joined (some (.chan k)) (some .caller)).enter .trunkSetup none false = { l with
      state := .trunkSetup, partner := some (.chan k), role := some .caller, cause := none, timer := .stopped } := rfl

/-- TRUNK-SETUP has no tone (Table 8-5). -/
theorem selectedTone_trunkSetup {l : LineRecord} (h : l.state = .trunkSetup) : selectedTone l = none := by
  simp only [selectedTone, h]

/-- R91: the record of a channel told to seize for a line. -/
def ChanRecord.seizedFor (c : ChanRecord) (n : Line) (callClass : CallClass) (digits : List Dec) : ChanRecord :=
  { c with
    partner := some n, direction := some .out, callClass := some callClass, sendList := digits, sendPosition := 0
    sendPhase := .digit }

/-- R85: an IDLE channel that is seized. -/
theorem ChanRecord.enter_seizing {c : ChanRecord} (hidle : c.state = .idle) :
    c.enter .seizing none = { c with state := .seizing, timer := .started, reject := none } := by
  have hdest : c.destination .seizing = .seizing := ChanRecord.destination_call c rfl
  have hstall : c.stallOnEntry = c.stall := if_neg (by rw [hidle]; exact fun h => nomatch h.1)
  rw [ChanRecord.enter_call (by rw [hdest]; decide), hdest, hstall]
  rfl

theorem ToneUnit.eq_withPositions {t u : ToneUnit} (hdescriptors : t.descriptors = u.descriptors)
    (hcadence : t.cadence = u.cadence) : t = { u with positions := t.positions } := by
  cases t
  cases u
  cases hdescriptors
  cases hcadence
  rfl

/-! ## The grant -/

theorem Part.hand_groupEnabled (p : Part) (kind : RecordKind) (x : Subject) (a b : Word) (tag : SnapshotTag)
    (other : RecordKind) : (p.hand kind x a b tag).groupEnabled other = p.groupEnabled other := by
  unfold Part.groupEnabled
  rw [Part.hand_gen]

/-- R71: the pointer of the class names the line, and the entry leaves the queue. -/
def Part.unqueued (p : Part) (k : Chan) (n : Line) (c : CallClass) : Part :=
  ({ p with alloc := { p.alloc with pointers := p.alloc.pointers.set k.val (p.alloc.pointers[k].moved c n) } }
    : Part).setWaiter n none

/-- R71: a grant up to the seizing of the channel, with the line in TRUNK-SETUP. -/
def Part.granting (p : Part) (k : Chan) (n : Line) (c : CallClass) : Part :=
  ((p.unqueued k n c).setPartner n (some (.chan k)) (some .caller)).enterLine n .trunkSetup

section Granting

variable (p : Part) (k : Chan) (n : Line) (c : CallClass)

@[simp] theorem Part.unqueued_lines : (p.unqueued k n c).lines = p.lines := rfl
@[simp] theorem Part.unqueued_chans : (p.unqueued k n c).chans = p.chans := rfl
@[simp] theorem Part.unqueued_link : (p.unqueued k n c).link = p.link := rfl
@[simp] theorem Part.unqueued_tone : (p.unqueued k n c).tone = p.tone := rfl
@[simp] theorem Part.unqueued_gen : (p.unqueued k n c).gen = p.gen := rfl
@[simp] theorem Part.unqueued_report : (p.unqueued k n c).report = p.report := rfl
@[simp] theorem Part.unqueued_clock : (p.unqueued k n c).clock = p.clock := rfl
@[simp] theorem Part.unqueued_cmd : (p.unqueued k n c).cmd = p.cmd := rfl
@[simp] theorem Part.unqueued_outbox : (p.unqueued k n c).outbox = p.outbox := rfl
@[simp] theorem Part.unqueued_ring : (p.unqueued k n c).ring = p.ring := rfl
theorem Part.unqueued_alloc : (p.unqueued k n c).alloc = { p.alloc with
    pointers := p.alloc.pointers.set k.val (p.alloc.pointers[k].moved c n)
    waiters := p.alloc.waiters.set n.val none } := rfl

theorem Part.granting_line : (p.granting k n c).lines[n] = { p.lines[n] with
    state := .trunkSetup, partner := some (.chan k), role := some .caller, cause := none, timer := .stopped } := by
  rw [Part.granting, Part.enterLine_self, Part.setPartner_self]
  exact LineRecord.enter_trunkSetup ..

variable {n} in
theorem Part.granting_line_ne {m : Line} (h : m ≠ n) : (p.granting k n c).lines[m] = p.lines[m] := by
  rw [Part.granting, Part.enterLine_ne _ _ _ _ h, Part.setPartner_ne _ _ _ h, Part.unqueued_lines]

@[simp] theorem Part.granting_chans : (p.granting k n c).chans = p.chans := by simp [Part.granting]
@[simp] theorem Part.granting_link : (p.granting k n c).link = p.link := by simp [Part.granting]
@[simp] theorem Part.granting_ring : (p.granting k n c).ring = p.ring := by simp [Part.granting]
@[simp] theorem Part.granting_gen : (p.granting k n c).gen = p.gen := by simp [Part.granting]
@[simp] theorem Part.granting_clock : (p.granting k n c).clock = p.clock := by simp [Part.granting]
@[simp] theorem Part.granting_cmd : (p.granting k n c).cmd = p.cmd := by simp [Part.granting]
@[simp] theorem Part.granting_outbox : (p.granting k n c).outbox = p.outbox := by simp [Part.granting]
@[simp] theorem Part.granting_alloc : (p.granting k n c).alloc = (p.unqueued k n c).alloc := by simp [Part.granting]

variable {n} in
theorem Part.granting_position_ne {m : Line} (h : m ≠ n) :
    (p.granting k n c).tone.positions[m] = p.tone.positions[m] := by
  rw [Part.granting, Part.enterLine_positions_ne _ _ _ _ h, Part.setPartner_tone, Part.unqueued_tone]

theorem Part.granting_selectedTone : selectedTone (p.granting k n c).lines[n] = none :=
  selectedTone_trunkSetup (by rw [Part.granting_line])

variable {p n} in
theorem Part.granting_position_silent (h : p.tone.positions[n].tone = none) :
    (p.granting k n c).tone.positions[n] = p.tone.positions[n] :=
  Part.enterLine_position_same (h.trans (p.granting_selectedTone k n c).symm)

variable {p n} in
/-- R144, R145: a line that heard a tone falls silent. -/
theorem Part.granting_position_reset (h : p.tone.positions[n].tone ≠ none) :
    (p.granting k n c).tone.positions[n] = .restarted p.tone.descriptors none := by
  have hnone := p.granting_selectedTone k n c
  unfold Part.granting at hnone ⊢
  rw [Part.enterLine_position_restarts (by rwa [hnone]), hnone, Part.setPartner_tone, Part.unqueued_tone]

/-- R44: the LINE-STATE record. -/
theorem Part.granting_report : (p.granting k n c).report = (p.hand .lineState (.line n)
    (detail2 LineState.trunkSetup.item 0xFF) (partnerDetail (some (.chan k)))).report := by
  have hpartner : (p.granting k n c).lines[n].partner = some (.chan k) := by rw [Part.granting_line]
  rw [← hpartner]
  exact (Part.enterLine_report ..).trans (Part.hand_report_congr _ _ _ _ rfl rfl rfl)

end Granting

section Grant

variable {p : Part} {k : Chan} {n : Line} {e : WaitEntry}

theorem Part.grant_none (h : p.alloc.waiters[n] = none) : p.grant k n = p := by
  simp only [Part.grant, h]

theorem Part.grant_entry (h : p.alloc.waiters[n] = some e) :
    p.grant k n = (p.granting k n e.callClass).seize k n e.callClass := by
  simp only [Part.grant, h]
  rfl

/-- R71: a grant is the setting up of the line and then the seizing of the channel with the forwarded digits. -/
theorem Part.grant_seizes (h : p.alloc.waiters[n] = some e) :
    p.grant k n = ((p.granting k n e.callClass).setChan k
      (p.chans[k].seizedFor n e.callClass p.lines[n].forwarded)).enterChan k .seizing := by
  have hforwarded : (p.granting k n e.callClass).lines[n].forwarded = p.lines[n].forwarded := by
    rw [Part.granting_line]; rfl
  rw [Part.grant_entry h, Part.seize, hforwarded, Part.granting_chans]
  rfl

theorem Part.grant_chan (h : p.alloc.waiters[n] = some e) (hidle : p.chans[k].state = .idle) :
    (p.grant k n).chans[k] = { p.chans[k].seizedFor n e.callClass p.lines[n].forwarded with
      state := .seizing, timer := .started, reject := none } := by
  rw [Part.grant_seizes h, Part.enterChan_self, Part.setChan_chans, getElem_set_fin_same]
  exact ChanRecord.enter_seizing hidle

theorem Part.grant_chan_ne (h : p.alloc.waiters[n] = some e) {j : Chan} (hj : j ≠ k) :
    (p.grant k n).chans[j] = p.chans[j] := by
  rw [Part.grant_seizes h, Part.enterChan_ne _ _ _ hj, Part.setChan_chans, getElem_set_fin, if_neg hj.symm,
    Part.granting_chans]

theorem Part.grant_occupancy (h : p.alloc.waiters[n] = some e) (hidle : p.chans[k].state = .idle) :
    (p.grant k n).alloc.occupancy = p.alloc.occupancy ++ [k] := by
  have hseized : (p.chans[k].seizedFor n e.callClass p.lines[n].forwarded).state = .idle := hidle
  rw [Part.grant_seizes h, Part.enterChan_occupancy, Part.setChan_chans, getElem_set_fin_same,
    ChanRecord.destination_call _ rfl, occupancyAfter_taken _ _ hseized (.inl rfl), Part.setChan_alloc, Part.granting_alloc]
  rfl

theorem Part.grant_pointers (h : p.alloc.waiters[n] = some e) :
    (p.grant k n).alloc.pointers = p.alloc.pointers.set k.val (p.alloc.pointers[k].moved e.callClass n) := by
  rw [Part.grant_seizes h, Part.enterChan_alloc_pointers, Part.setChan_alloc, Part.granting_alloc]
  rfl

/-- A grant makes no channel usable or unusable. -/
theorem Part.grant_maskUsable (h : p.alloc.waiters[n] = some e) (hidle : p.chans[k].state = .idle) (mask : BitVec 16) :
    (p.grant k n).maskUsable mask = p.maskUsable mask := by
  have hlink : (p.grant k n).link.state = p.link.state := by
    rw [Part.grant_seizes h, Part.enterChan_link, Part.setChan_link, Part.granting_link]
  have husable : ∀ j : Chan, (p.grant k n).usable j = p.usable j := by
    intro j
    by_cases hj : j = k
    · subst hj
      simp only [Part.usable, Part.grant_chan h hidle, hlink, hidle, ChanRecord.seizedFor]
      rfl
    · simp only [Part.usable, Part.grant_chan_ne h hj, hlink]
  simp only [Part.maskUsable, husable]

theorem Part.grant_waiter (h : p.alloc.waiters[n] = some e) (hidle : p.chans[k].state = .idle) (m : Line) :
    (p.grant k n).alloc.waiters[m] =
      if m = n then none else (p.alloc.waiters[m]).map fun f => f.judged (p.maskUsable f.mask) := by
  have hwaiter : (p.granting k n e.callClass).alloc.waiters[m] = if n = m then none else p.alloc.waiters[m] := by
    rw [Part.granting_alloc, Part.unqueued_alloc, getElem_set_fin]
  have hjudged : ∀ mask, (((p.granting k n e.callClass).setChan k
      (p.chans[k].seizedFor n e.callClass p.lines[n].forwarded)).enterChan k .seizing).maskUsable mask =
        p.maskUsable mask := fun mask => by
    rw [← Part.grant_seizes h, Part.grant_maskUsable h hidle]
  rw [Part.grant_seizes h, Part.enterChan_waiter, Part.setChan_alloc, hwaiter]
  simp only [hjudged]
  by_cases hm : m = n
  · rw [if_pos hm, if_pos hm.symm]
    rfl
  · rw [if_neg hm, if_neg (Ne.symm hm)]

/-- R121: a channel in SEIZING is not quiet. -/
theorem Part.silenceHolds_of_busy {k : Chan} (h : p.chans[k].state.quiet = false) : p.silenceHolds = false := by
  have hall : (p.chans.toList.all fun c => c.state.quiet) = false := by
    rw [List.all_eq_false]
    exact ⟨p.chans[k], by simp, by rw [h]; decide⟩
  unfold Part.silenceHolds
  rw [hall, Bool.and_false]

theorem Part.grant_link (h : p.alloc.waiters[n] = some e) (hidle : p.chans[k].state = .idle) :
    (p.grant k n).link = { p.link with silence := .stopped } := by
  have hbusy : (p.grant k n).silenceHolds = false :=
    Part.silenceHolds_of_busy (k := k) (by rw [Part.grant_chan h hidle]; rfl)
  rw [Part.grant_seizes h] at hbusy ⊢
  rw [Part.enterChan_link, hbusy, Part.setChan_link, Part.granting_link]
  rfl

/-- R44, R113: LINE-STATE and then CHANNEL-STATE. -/
theorem Part.grant_report (h : p.alloc.waiters[n] = some e) (hidle : p.chans[k].state = .idle) :
    (p.grant k n).report = ((p.hand .lineState (.line n) (detail2 LineState.trunkSetup.item 0xFF)
      (partnerDetail (some (.chan k)))).hand .chanState (.chan k)
        (detail3 ChanState.seizing.item Direction.out.item4 e.callClass.item4) (lineDetail (some n))).report := by
  have hchan := Part.grant_chan h hidle
  rw [Part.grant_seizes h] at hchan ⊢
  rw [Part.enterChan_report, hchan, ChanRecord.destination_call _ rfl]
  exact Part.hand_report_congr _ _ _ _ (Part.granting_report ..) (by simp) (by simp)

/-- What a grant leaves alone. -/
theorem Part.grant_frame (h : p.alloc.waiters[n] = some e) :
    (p.grant k n).tone = (p.granting k n e.callClass).tone ∧ (p.grant k n).lines = (p.granting k n e.callClass).lines ∧
      (p.grant k n).cmd = p.cmd ∧ (p.grant k n).outbox = p.outbox ∧ (p.grant k n).ring = p.ring := by
  rw [Part.grant_seizes h]
  simp

end Grant

/-- Settles O32, field by field: the line and its tone are those of the setting up, the channel and the queue those of the
seizing. -/
theorem grantSeizesTheChannel : Obligations.GrantSeizesTheChannel := by
  intro p k n e h hidle q
  obtain ⟨htone, hlines, hcmd, houtbox, hring⟩ := Part.grant_frame (k := k) h
  have hpointers : q.alloc.pointers = _ := Part.grant_pointers h
  have hfixed : q.fixed = p.fixed := Part.grant_fixed p k n
  refine ⟨?gone, Part.grant_occupancy h hidle, ?others, ?pointer, ?pointerClasses, ?pointerChans, ?line, ?chan,
    Part.grant_link h hidle, Part.grant_report h hidle, ?toneUnit, ?positions, ?silent, ?silenced, hcmd, houtbox, ?records,
    ?lines, fun j hj => Part.grant_chan_ne h hj, congrArg Fixed.sup hfixed, congrArg Fixed.directory hfixed,
    congrArg Fixed.codes hfixed, congrArg Fixed.supply hfixed, hring, congrArg Fixed.copies hfixed,
    congrArg Fixed.gen hfixed, congrArg Fixed.clock hfixed⟩
  case gone => exact (Part.grant_waiter h hidle n).trans (if_pos rfl)
  case others => exact fun m hm => (Part.grant_waiter h hidle m).trans (if_neg hm)
  case pointer => rw [hpointers, getElem_set_fin_same, GrantPointers.moved_same]
  case pointerClasses =>
    intro c hc
    rw [hpointers, getElem_set_fin_same, GrantPointers.moved_ne _ _ hc]
  case pointerChans =>
    intro j hj
    rw [hpointers, getElem_set_fin, if_neg hj.symm]
  case line =>
    rw [hlines, Part.granting_line]
    rfl
  case chan => exact Part.grant_chan h hidle
  case toneUnit => exact ToneUnit.eq_withPositions (congrArg Fixed.descriptors hfixed) (congrArg Fixed.cadence hfixed)
  case positions =>
    intro m hm
    rw [htone, Part.granting_position_ne _ _ _ hm]
  case silent =>
    intro hnone
    rw [htone, Part.granting_position_silent _ _ hnone]
  case silenced =>
    intro hsome
    rw [htone, Part.granting_position_reset _ _ hsome, TonePosition.restarted_none]
  case records =>
    intro hline hchan hroom
    have hqueue := Part.hand_queue_room (p := p) (x := .line n) (a := detail2 LineState.trunkSetup.item 0xFF)
      (b := partnerDetail (some (.chan k))) hline (by omega)
    rw [show q.report = _ from Part.grant_report h hidle, Part.hand_queue_room _ _ _ ?_ ?_, hqueue]
    · simp
    · rw [Part.hand_groupEnabled, hchan]
    · rw [hqueue, List.length_append]
      exact Nat.succ_lt_succ hroom
  case lines =>
    intro m hm
    rw [hlines, Part.granting_line_ne _ _ _ hm]

end Sys2Proof.Machine
end

section
/-! The waiter chosen for a free channel, and then the statement about it (R64, R69). -/

namespace Sys2Proof.Machine

/-! ## Searches in order -/

/-- In a list in some strict order, what a search finds stands before everything else that passes. -/
theorem find?_precedes {α : Type} {r : α → α → Prop} {f : α → Bool} {l : List α} {a b : α} (hl : l.Pairwise r)
    (ha : l.find? f = some a) (hb : b ∈ l) (hf : f b = true) : a = b ∨ r a b := by
  obtain ⟨-, before, after, rfl, hbefore⟩ := List.find?_eq_some_iff_append.1 ha
  rcases List.mem_append.1 hb with hmem | hmem
  · have hfalse := hbefore b hmem
    rw [hf] at hfalse
    cases hfalse
  · rcases List.mem_cons.1 hmem with rfl | hmem
    · exact .inl rfl
    · exact .inr ((List.pairwise_cons.1 (List.pairwise_append.1 hl).2.1).1 b hmem)

/-! ## The rotation (R64) -/

/-- The turn of a line in the rotation from a pointer. -/
def turnFrom (pointer : Option Line) (n : Line) : Nat :=
  match pointer with
  | none => n.val
  | some last => (n.val + 47 - last.val) % 48

theorem turnFrom_after {last n : Line} (h : last.val < n.val) : turnFrom (some last) n = n.val - last.val - 1 := by
  have hn := n.isLt
  simp only [turnFrom]
  omega

theorem turnFrom_upTo {last n : Line} (h : n.val ≤ last.val) : turnFrom (some last) n = n.val + 47 - last.val := by
  have hlast := last.isLt
  simp only [turnFrom]
  omega

theorem mem_rotation (pointer : Option Line) (n : Line) : n ∈ rotation pointer := by
  cases pointer with
  | none => exact List.mem_finRange n
  | some last => simp [rotation, lt_or_ge]

theorem rotation_inTurn (pointer : Option Line) :
    (rotation pointer).Pairwise fun m n => turnFrom pointer m < turnFrom pointer n := by
  have hlt : (List.finRange 48).Pairwise (· < ·) := List.pairwise_lt_finRange 48
  cases pointer with
  | none => exact hlt
  | some last =>
    refine List.pairwise_append.2 ⟨?_, ?_, ?_⟩
    · refine (hlt.filter _).imp_of_mem fun {m n} hm hn hmn => ?_
      have hm' : last.val < m.val := by simpa using hm
      have hn' : last.val < n.val := by simpa using hn
      have hlt' : m.val < n.val := hmn
      rw [turnFrom_after hm', turnFrom_after hn']
      omega
    · refine (hlt.filter _).imp_of_mem fun {m n} hm hn hmn => ?_
      have hm' : m.val ≤ last.val := by simpa using hm
      have hn' : n.val ≤ last.val := by simpa using hn
      have hlt' : m.val < n.val := hmn
      rw [turnFrom_upTo hm', turnFrom_upTo hn']
      omega
    · intro m hm n hn
      have hm' : last.val < m.val := by simpa using hm
      have hn' : n.val ≤ last.val := by simpa using hn
      have hbound := m.isLt
      rw [turnFrom_after hm', turnFrom_upTo hn']
      omega

/-! ## The waiter of one class (R69, steps 2 and 3) -/

section Chosen

variable {p : Part} {k : Chan}

theorem Part.waitsFor_iff {c : CallClass} {n : Line} :
    p.waitsFor k c n = true ↔ ∃ e, p.alloc.waiters[n] = some e ∧ maskHas e.mask k = true ∧ e.callClass = c := by
  unfold Part.waitsFor
  cases h : p.alloc.waiters[n] <;> simp

theorem Part.hasGlare_entry {n : Line} {e : WaitEntry} (h : p.alloc.waiters[n] = some e) : p.hasGlare n = e.glare := by
  simp only [Part.hasGlare, h]

theorem Part.chosenOf_none_iff {c : CallClass} : p.chosenOf k c = none ↔ ∀ n, p.waitsFor k c n = false := by
  unfold Part.chosenOf
  constructor
  · split
    · nofun
    · intro h n
      exact Bool.eq_false_iff.2 (List.find?_eq_none.1 h n (mem_rotation _ n))
  · intro h
    have hglare : (List.finRange 48).find? (fun n => p.waitsFor k c n && p.hasGlare n) = none :=
      List.find?_eq_none.2 fun n _ => by rw [h n]; exact Bool.false_ne_true
    rw [hglare]
    exact List.find?_eq_none.2 fun n _ => by rw [h n]; decide

/-- The waiter of a class waits; with glare precedence it is the lowest-numbered line that has it, and without it no
waiter has it and no waiter has an earlier turn. -/
theorem Part.chosenOf_some {c : CallClass} {n : Line} (h : p.chosenOf k c = some n) :
    p.waitsFor k c n = true ∧
      (p.hasGlare n = true → ∀ m, p.waitsFor k c m = true → p.hasGlare m = true → n ≤ m) ∧
      (p.hasGlare n = false → ∀ m, p.waitsFor k c m = true → p.hasGlare m = false ∧
        turnFrom (p.alloc.pointers[k].pointer c) n ≤ turnFrom (p.alloc.pointers[k].pointer c) m) := by
  unfold Part.chosenOf at h
  split at h
  · rename_i x hx
    cases h
    have hboth := List.find?_some hx
    simp only [Bool.and_eq_true] at hboth
    refine ⟨hboth.1, fun _ m hm hglare => ?_, fun hno => absurd hboth.2 (Bool.eq_false_iff.1 hno)⟩
    rcases find?_precedes (List.pairwise_lt_finRange 48) hx (List.mem_finRange m) (by rw [hm, hglare]; rfl) with rfl | hlt
    · exact le_rfl
    · exact hlt.le
  · rename_i hnone
    have hnoGlare : ∀ m, p.waitsFor k c m = true → p.hasGlare m = false := fun m hm => by
      have hboth := List.find?_eq_none.1 hnone m (List.mem_finRange m)
      rw [hm, Bool.true_and] at hboth
      exact Bool.eq_false_iff.2 hboth
    have hwaits : p.waitsFor k c n = true := List.find?_some h
    refine ⟨hwaits, fun hglare => absurd hglare (Bool.eq_false_iff.1 (hnoGlare n hwaits)), fun _ m hm => ⟨hnoGlare m hm, ?_⟩⟩
    rcases find?_precedes (rotation_inTurn _) h (mem_rotation _ m) hm with rfl | hlt
    · exact le_rfl
    · exact hlt.le

/-! ## The highest class (R69, step 1) -/

theorem CallClass.rank_le_two (c : CallClass) : c.rank ≤ 2 := by cases c <;> decide

/-- The waiter chosen is the waiter of a class above which no line waits. -/
theorem Part.chosen_some {n : Line} (h : p.chosen k = some n) :
    ∃ c : CallClass, p.chosenOf k c = some n ∧ ∀ d : CallClass, c.rank < d.rank → p.chosenOf k d = none := by
  unfold Part.chosen at h
  split at h
  · rename_i x hemergency
    cases h
    exact ⟨.emergency, hemergency, fun d hd => absurd d.rank_le_two (Nat.not_le.2 hd)⟩
  · rename_i hemergency
    split at h
    · rename_i x hpriority
      cases h
      refine ⟨.priority, hpriority, fun d hd => ?_⟩
      cases d with
      | emergency => exact hemergency
      | _ => exact absurd hd (by decide)
    · rename_i hpriority
      refine ⟨.normal, h, fun d hd => ?_⟩
      cases d with
      | emergency => exact hemergency
      | priority => exact hpriority
      | normal => exact absurd hd (by decide)

theorem Part.chosen_none_iff : p.chosen k = none ↔ ∀ c, p.chosenOf k c = none := by
  unfold Part.chosen
  constructor
  · intro h c
    split at h
    · cases h
    · rename_i hemergency
      split at h
      · cases h
      · rename_i hpriority
        cases c with
        | emergency => exact hemergency
        | priority => exact hpriority
        | normal => exact h
  · intro h
    rw [h .emergency, h .priority]
    exact h .normal

end Chosen

/-- Settles O33: the waiter chosen is the waiter of the highest class that has one. -/
theorem waiterIsChosenByClassGlareAndRotation : Obligations.WaiterIsChosenByClassGlareAndRotation := by
  intro p k waits turn
  refine ⟨?none, fun n hn => ?chosen⟩
  case none =>
    rw [Part.chosen_none_iff]
    simp only [Part.chosenOf_none_iff]
    constructor
    · intro h n e ⟨he, hmask⟩
      exact Bool.eq_false_iff.1 (h e.callClass n) (Part.waitsFor_iff.2 ⟨e, he, hmask, rfl⟩)
    · intro h c n
      refine Bool.eq_false_iff.2 fun hwaits => ?_
      obtain ⟨e, he, hmask, -⟩ := Part.waitsFor_iff.1 hwaits
      exact h n e ⟨he, hmask⟩
  case chosen =>
    obtain ⟨c, hchosen, habove⟩ := Part.chosen_some hn
    obtain ⟨hwaits, hglare, hrotation⟩ := Part.chosenOf_some hchosen
    obtain ⟨e, he, hmask, rfl⟩ := Part.waitsFor_iff.1 hwaits
    rw [Part.hasGlare_entry he] at hglare hrotation
    refine ⟨e, ⟨he, hmask⟩, fun m f ⟨hf, hfmask⟩ => ?highest, fun hg m f ⟨hf, hfmask⟩ hclass hfglare => ?glare,
      fun hg m f ⟨hf, hfmask⟩ hclass => ?turn⟩
    case highest =>
      refine Nat.le_of_not_lt fun hhigher => ?_
      have hno := Part.chosenOf_none_iff.1 (habove f.callClass hhigher) m
      exact Bool.eq_false_iff.1 hno (Part.waitsFor_iff.2 ⟨f, hf, hfmask, rfl⟩)
    case glare =>
      exact hglare hg m (Part.waitsFor_iff.2 ⟨f, hf, hfmask, hclass⟩) ((Part.hasGlare_entry hf).trans hfglare)
    case turn =>
      obtain ⟨hfglare, hturn⟩ := hrotation hg m (Part.waitsFor_iff.2 ⟨f, hf, hfmask, hclass⟩)
      exact ⟨(Part.hasGlare_entry hf).symm.trans hfglare, hturn⟩

end Sys2Proof.Machine
end

section
/-! Preemption, channel free, and what a channel that has left its call does to the queue, and then the statement about them
(R68, R76 to R79, R101). -/

namespace Sys2Proof.Machine

/-! ## The victim of an attempt (R77) -/

/-- R77: the channel can be the victim of an attempt for an entry. -/
def Part.qualifies (p : Part) (e : WaitEntry) (k : Chan) : Bool :=
  maskHas e.mask k && p.chans[k].callClass == some .normal && !p.chans[k].draining && p.chans[k].state.clearable

section Victim

variable {p : Part} {e : WaitEntry}

theorem Part.qualifies_iff {k : Chan} :
    p.qualifies e k = true ↔ maskHas e.mask k = true ∧ p.chans[k].callClass = some .normal ∧
      p.chans[k].draining = false ∧ (p.chans[k].state = .seizing ∨ p.chans[k].state = .sending ∨
        p.chans[k].state = .awaitAnswer ∨ p.chans[k].state = .talk ∨ p.chans[k].state = .incoming ∨
        p.chans[k].state = .ringingIn) := by
  simp only [Part.qualifies, Bool.and_eq_true, Bool.not_eq_true', beq_iff_eq, ChanState.clearable_iff, and_assoc]
  refine and_congr_right' (and_congr_right' (and_congr_right' ?_))
  tauto

theorem Part.victim_none (h : ∀ k ∈ p.alloc.occupancy, p.qualifies e k = false) : p.victim e = none :=
  List.find?_eq_none.2 fun k hk => Bool.eq_false_iff.1 (h k (List.mem_reverse.1 hk))

theorem Part.victim_youngest {older younger : List Chan} {k : Chan} (hlist : p.alloc.occupancy = older ++ k :: younger)
    (hk : p.qualifies e k = true) (hyounger : ∀ j ∈ younger, p.qualifies e j = false) : p.victim e = some k := by
  have hreverse : p.alloc.occupancy.reverse = younger.reverse ++ k :: older.reverse := by
    rw [hlist, List.reverse_append, List.reverse_cons, List.append_assoc, List.singleton_append]
  refine List.find?_eq_some_iff_append.2 ⟨hk, younger.reverse, older.reverse, hreverse, fun j hj => ?_⟩
  rw [Bool.not_eq_true']
  exact hyounger j (List.mem_reverse.1 hj)

theorem Part.victim_clearable {k : Chan} (h : p.victim e = some k) : p.chans[k].state.clearable = true := by
  have hk := Part.victim_mem h
  rw [Part.mem_takeableChans, ChanRecord.takeable, Bool.and_eq_true] at hk
  exact hk.2

end Victim

/-! ## The attempt (R77, R78) -/

section Attempt

variable {p : Part} {n : Line} {e : WaitEntry}

theorem Part.preempt_noVictim (h : p.alloc.waiters[n] = some e) (hnone : p.victim e = none) : p.preempt n = p := by
  rw [Part.preempt_eq]
  simp only [h, hnone]

/-- R77, R78: the attempt reported and its victim recorded. -/
def Part.attemptTold (p : Part) (n : Line) (e : WaitEntry) (k : Chan) : Part :=
  (p.hand .preempted (.chan k) (detail1 n.val) (lineDetail p.chans[k].partner)).setWaiter n
    (some { e with outstanding := some k })

theorem Part.attemptTold_chans (k : Chan) : (p.attemptTold n e k).chans = p.chans := Part.hand_chans ..

theorem Part.preempt_victim {k : Chan} (h : p.alloc.waiters[n] = some e) (hk : p.victim e = some k) :
    p.preempt n = match p.chans[k].partner with
      | none => (p.attemptTold n e k).clearChan k
      | some m => ((p.attemptTold n e k).clearChan k).dropLine m .preempted := by
  rw [Part.preempt_eq]
  simp only [h, hk]
  rfl

end Attempt

/-! ## Channel free (R68, R76) -/

section ChannelFree

variable {p : Part} {k : Chan}

theorem Part.channelFree_clearing (h : p.clearing = true) : p.channelFree k = p := if_pos h

theorem Part.channelFree_noWaiter (h : p.chosen k = none) : p.channelFree k = p := by
  unfold Part.channelFree
  rw [h]
  exact ite_self p

theorem Part.channelFree_grants {n : Line} (h : p.clearing = false) (hn : p.chosen k = some n) :
    p.channelFree k = p.grant k n := by
  unfold Part.channelFree
  rw [h, hn]
  rfl

/-- No entry waits on the channel as its victim. -/
def Part.noneWaitsOn (p : Part) (k : Chan) : Prop :=
  ∀ (n : Line) (e : WaitEntry), p.alloc.waiters[n] = some e → e.outstanding ≠ some k

@[simp] theorem WaitEntry.judged_outstanding (e : WaitEntry) (usable : Bool) :
    (e.judged usable).outstanding = e.outstanding := by
  rw [WaitEntry.judged_eq]

/-- A grant gives no entry a victim. -/
theorem Part.grant_noneWaitsOn {n : Line} (h : p.noneWaitsOn k) (hidle : p.chans[k].state = .idle) :
    (p.grant k n).noneWaitsOn k := by
  cases hentry : p.alloc.waiters[n] with
  | none => rwa [Part.grant_none hentry]
  | some e =>
    intro m f hf
    rw [Part.grant_waiter hentry hidle] at hf
    split at hf
    · cases hf
    · obtain ⟨g, hg, rfl⟩ := Option.map_eq_some_iff.1 hf
      rw [WaitEntry.judged_outstanding]
      exact h m g hg

theorem Part.channelFree_noneWaitsOn (h : p.noneWaitsOn k) (hidle : p.chans[k].state = .idle) :
    (p.channelFree k).noneWaitsOn k := by
  cases hclear : p.clearing with
  | true => rwa [Part.channelFree_clearing hclear]
  | false =>
    cases hchosen : p.chosen k with
    | none => rwa [Part.channelFree_noWaiter hchosen]
    | some n =>
      rw [Part.channelFree_grants hclear hchosen]
      exact Part.grant_noneWaitsOn h hidle

/-! ## A channel that has left its call (R68, R79) -/

theorem Part.retry_same {again : Part → Line → Part} (h : p.noneWaitsOn k) (n : Line) :
    Part.retry again k p n = p := by
  unfold Part.retry
  split
  · rename_i e he
    exact if_neg (h n e he)
  · rfl

theorem Part.leave_none (h : p.noneWaitsOn k) :
    p.leave k = if p.chans[k].state = .idle then p.channelFree k else p := by
  have hfree : (if p.chans[k].state = .idle then p.channelFree k else p).noneWaitsOn k := by
    split
    · rename_i hidle
      exact Part.channelFree_noneWaitsOn h hidle
    · exact h
  exact List.foldl_fixed' (Part.retry_same hfree) _

end ChannelFree

/-- Settles O34: the victim by the occupancy list, the attempt by the victim, channel free by CLEAR-CALLS and the waiter
chosen, and the rest by the entries that waited on the channel. -/
theorem preemptionTakesTheYoungestNormalCall : Obligations.PreemptionTakesTheYoungestNormalCall := by
  refine ⟨?victim, ?attempt, fun p k => ⟨?free, fun n => Part.channelFree_grants⟩, ?left⟩
  case victim =>
    intro p e qualifies
    have hno {k : Chan} (h : ¬ qualifies k) : p.qualifies e k = false := Bool.eq_false_iff.2 (h ∘ Part.qualifies_iff.1)
    exact ⟨fun h => Part.victim_none fun k hk => hno (h k hk), fun older younger k hlist hk hyounger =>
      Part.victim_youngest hlist (Part.qualifies_iff.2 hk) fun j hj => hno (hyounger j hj)⟩
  case attempt =>
    intro p n e he
    refine ⟨Part.preempt_noVictim he, ?_⟩
    intro k hk told cleared q
    have hclear : told.clearChan k = q := by
      have hchans : told.chans = p.chans := Part.attemptTold_chans k
      rw [Part.clearChan_call (by rw [hchans]; exact Part.victim_clearable hk), hchans]
      rfl
    rw [Part.preempt_victim he hk]
    cases p.chans[k].partner with
    | none => exact hclear
    | some m => exact congrArg (·.dropLine m .preempted) hclear
  case free =>
    rintro (h | h)
    · exact Part.channelFree_clearing h
    · exact Part.channelFree_noWaiter h
  case left =>
    intro p k retried
    exact ⟨rfl, Part.leave_none⟩

end Sys2Proof.Machine
end

section
/-! Enqueue and re-entry, the entry timers, and then the statements about them (R62, R65 to R67, R72 to R74, R117, R118). -/

namespace Sys2Proof.Machine

/-! ## Enqueue and re-entry (R65 to R67) -/

/-- R62: the channels of a mask that can be used. -/
theorem Part.maskUsable_iff (p : Part) (mask : BitVec 16) :
    p.maskUsable mask = true ↔ ∃ k : Chan, maskHas mask k = true ∧ p.chans[k].config.enabled = true ∧
      p.chans[k].draining = false ∧ p.link.state = .up ∧ p.chans[k].state ≠ .offline ∧ p.chans[k].state ≠ .fault ∧
      p.chans[k].state ≠ .blockedFar := by
  simp only [Part.maskUsable, Part.usable, List.any_eq_true, List.mem_finRange, true_and, Bool.and_eq_true,
    Bool.not_eq_true', Bool.or_eq_false_iff, beq_iff_eq, beq_eq_false_iff_ne, and_assoc]

section Enqueue

variable {p : Part} {n : Line} {r : Route} {glare : Bool}

theorem Part.enqueue_refused (h : p.lines[n].route = some r) (hrefuses : p.refusesEntry r glare = true) :
    p.enqueue n glare = p.dropLine n .congestion := by
  simp only [Part.enqueue, h, hrefuses, if_true]

theorem Part.refusesEntry_clearing (h : p.clearing = true) : p.refusesEntry r glare = true := by
  simp only [Part.refusesEntry, h, Bool.true_or]

/-- R65, step 2, and R67: supply refuses an enqueue of class NORMAL, and no re-entry. -/
theorem Part.refusesEntry_supply_iff (h : p.clearing = false) :
    p.refusesEntry r glare = true ↔
      glare = false ∧ p.supply.warning = true ∧ r.callClass = .normal ∧ p.link.state ≠ .up := by
  simp only [Part.refusesEntry, h, Bool.false_or, Bool.and_eq_true, Bool.not_eq_true', beq_iff_eq, bne_iff_ne, and_assoc,
    ne_eq]

/-- R65, steps 3 to 6. -/
theorem Part.enqueue_accepted (h : p.lines[n].route = some r) (haccepts : p.refusesEntry r glare = false) :
    p.enqueue n glare = match p.idleChannel r.mask with
      | some k => (p.setWaiter n (some (p.newEntry r glare))).grant k n
      | none => (p.setWaiter n (some (p.newEntry r glare))).pursue n (p.newEntry r glare) := by
  simp only [Part.enqueue, h, haccepts, Bool.false_eq_true, if_false]
  rfl

theorem Part.idleChannel_lowest {mask : BitVec 16} {k : Chan} (hk : maskHas mask k = true)
    (hidle : p.chans[k].state = .idle)
    (hlower : ∀ j : Chan, j < k → maskHas mask j = true → p.chans[j].state ≠ .idle) : p.idleChannel mask = some k := by
  refine find_finRange _ k (by rw [hk, hidle]; rfl) fun j hj => ?_
  rw [Bool.and_eq_false_imp]
  exact fun hmask => beq_eq_false_iff_ne.2 (hlower j hj hmask)

theorem Part.idleChannel_none {mask : BitVec 16} (h : ∀ k : Chan, maskHas mask k = true → p.chans[k].state ≠ .idle) :
    p.idleChannel mask = none := by
  refine List.find?_eq_none.2 fun k _ hboth => ?_
  rw [Bool.and_eq_true, beq_iff_eq] at hboth
  exact h k hboth.1 hboth.2

theorem Part.demandRaising_iff (p : Part) (e : WaitEntry) :
    p.demandRaising e = true ↔ e.callClass ≠ .normal ∨ p.supply.warning = false := by
  simp only [Part.demandRaising, Bool.or_eq_true, bne_iff_ne, Bool.not_eq_true']

/-- R65, steps 5 and 6: demand and then the preemption attempt. -/
theorem Part.pursue_eq (p : Part) (n : Line) (e : WaitEntry) :
    p.pursue n e =
      let d := if p.link.state ≠ .up ∧ (e.callClass ≠ .normal ∨ p.supply.warning = false) then p.demand else p
      if e.preempt = true ∧ e.callClass = .emergency then d.preempt n else d := by
  simp only [Part.pursue, Part.demandRaising_iff]

/-- R66, R117, R118: demand starts an OFF link in RUNNING under a policy other than OFF. -/
theorem Part.demand_eq (p : Part) :
    p.demand = if p.cmd.mode = .running ∧ p.gen.policy ≠ .off ∧ p.link.state = .off
      then p.enterLink .starting (some .localSide) .demand else p := by
  simp only [Part.demand, Part.isRunning, beq_iff_eq]

end Enqueue

/-- Settles O31: the refusals, then the grant or the pursuit of the entry made. -/
theorem enqueueMakesAnEntryOrIsRefused : Obligations.EnqueueMakesAnEntryOrIsRefused := by
  refine ⟨?_, Part.maskUsable_iff, Part.demand_eq⟩
  intro p n r glare hroute entry q
  refine ⟨fun hclear => ?clearing, fun hclear hglare hwarning hclass hlink => ?supply, fun hclear haccepted => ?made⟩
  case clearing => exact Part.enqueue_refused hroute (Part.refusesEntry_clearing hclear)
  case supply =>
    exact Part.enqueue_refused hroute ((Part.refusesEntry_supply_iff hclear).2 ⟨hglare, hwarning, hclass, hlink⟩)
  case made =>
    have haccepts : p.refusesEntry r glare = false := by
      rw [Bool.eq_false_iff, ne_eq, Part.refusesEntry_supply_iff hclear]
      rintro ⟨hglare, hwarning, hclass, hlink⟩
      rcases haccepted with h | h | h | h
      · exact nomatch hglare.symm.trans h
      · exact nomatch hwarning.symm.trans h
      · exact h hclass
      · exact hlink h
    have hmade := Part.enqueue_accepted hroute haccepts
    refine ⟨fun k hk hidle hlower => ?_, fun hnone => ?_⟩
    · rw [hmade, Part.idleChannel_lowest hk hidle hlower]
      rfl
    · rw [hmade, Part.idleChannel_none hnone]
      exact Part.pursue_eq ..

/-! ## The entry timers (R72 to R74) -/

section EntryTimers

variable {p : Part} {n : Line}

theorem Part.queueDue_entry {e : WaitEntry} (h : p.alloc.waiters[n] = some e) : p.queueDue n = e.queueTimer.due := by
  simp only [Part.queueDue, h]

theorem Part.unusableDue_entry {e : WaitEntry} (h : p.alloc.waiters[n] = some e) :
    p.unusableDue n = e.unusableTimer.due := by
  simp only [Part.unusableDue, h]

theorem Part.entryDue_none (h : p.alloc.waiters[n] = none) : p.queueDue n = false ∧ p.unusableDue n = false := by
  simp only [Part.queueDue, Part.unusableDue, h, and_self]

theorem Part.entryExpired_entry {e : WaitEntry} (h : p.alloc.waiters[n] = some e) (limit : Nat) :
    p.entryExpired n limit = ((p.setWaiter n none).hand .queueTimeout (.line n) (detail1 limit)
      (detail1 e.callClass.item.toNat)).dropLine n .congestion := by
  simp only [Part.entryExpired, h]

end EntryTimers

/-- Settles O35, by the entry of the line. -/
theorem entryTimersEndTheWait : Obligations.EntryTimersEndTheWait := by
  refine ⟨?expires, fun s n hnone => ?none⟩
  case expires =>
    intro s n e hlive he gives
    refine ⟨fun hdue => ?queue, fun hdue => ?unusable⟩
    case queue =>
      have hdue' : s.part.queueDue n = true := (Part.queueDue_entry he).trans hdue
      exact congrArg _ ((State.eventIf_after (due := (·.queueDue n)) hlive hdue').trans
        (congrArg _ (Part.entryExpired_entry he 0)))
    case unusable =>
      have hdue' : s.part.unusableDue n = true := (Part.unusableDue_entry he).trans hdue
      exact congrArg _ ((State.eventIf_after (due := (·.unusableDue n)) hlive hdue').trans
        (congrArg _ (Part.entryExpired_entry he 1)))
  case none =>
    obtain ⟨hqueue, hunusable⟩ := Part.entryDue_none hnone
    exact ⟨congrArg _ (State.eventIf_notDue (due := (·.queueDue n)) hqueue),
      congrArg _ (State.eventIf_notDue (due := (·.unusableDue n)) hunusable)⟩

end Sys2Proof.Machine
end

section
/-! The far codes that a channel accepts (Table 5-7): what each code does in each state, and then the statements about the
codes that set calls up and the codes that release them (R92, R93, R95 to R98, R102, R103, R105 to R107). -/

namespace Sys2Proof.Machine

/-! ## Which effect an accepted code has (Table 5-5) -/

section Accept

variable {p : Part} {k : Chan} (h : p.chans[k].state ≠ .fault)
include h

theorem Part.accept_idle : p.accept k 0 = p.farIdle k 0 := if_neg h

theorem Part.accept_seize : p.accept k 1 = p.farSeize k 1 := if_neg h

theorem Part.accept_proceed : p.accept k 2 = p.farProceed k 2 := if_neg h

theorem Part.accept_ending : p.accept k 3 = p.farEnd k 3 := if_neg h

theorem Part.accept_ringing : p.accept k 4 = p.farRinging k 4 := if_neg h

theorem Part.accept_answer : p.accept k 5 = p.farAnswer k 5 := if_neg h

theorem Part.accept_clear : p.accept k 6 = p.farClear k 6 := if_neg h

theorem Part.accept_busy : p.accept k 7 = p.farReject k .busy 7 := if_neg h

theorem Part.accept_vacant : p.accept k 8 = p.farReject k .unobtainable 8 := if_neg h

theorem Part.accept_blocked : p.accept k 9 = p.farBlocked k := if_neg h

theorem Part.accept_digit {d : Dec} {x : Code} (hx : x.val = 10 + d.val) : p.accept k x = p.farDigit k d x := by
  simp only [Part.accept, SignalCode.ofCode_digit d x hx, h, if_false]

end Accept

/-- Table 5-5: K00 alone means IDLE. -/
theorem SignalCode.ofCode_idle_iff (x : Code) : SignalCode.ofCode x = .idle ↔ x = 0 := by
  revert x
  decide

/-! ## The line and channel of a call are parted (R22, R37) -/

section Parted

variable {p : Part} {k : Chan}

theorem Part.breakChan_clearing (p : Part) (k : Chan) : (p.breakChan k).clearing = p.clearing := by
  unfold Part.breakChan
  split <;> rfl

theorem Part.dropPartner_none (cause : Cause) (h : p.chans[k].partner = none) : p.dropPartner k cause = p := by
  simp only [Part.dropPartner, h]

theorem Part.dropPartner_some {n : Line} (cause : Cause) (h : p.chans[k].partner = some n) :
    p.dropPartner k cause = (p.breakChan k).dropLine n cause := by
  simp only [Part.dropPartner, h]

theorem Part.endCall_none (st : ChanState) (cause : Cause) (h : p.chans[k].partner = none) :
    p.endCall k st cause = p.enterChan k st := by
  simp only [Part.endCall, h]

theorem Part.endCall_some {n : Line} (st : ChanState) (cause : Cause) (h : p.chans[k].partner = some n) :
    p.endCall k st cause = ((p.breakChan k).enterChan k st).dropLine n cause := by
  simp only [Part.endCall, h]

end Parted

/-! ## SEIZE and PROCEED (R92, R95 to R97) -/

section Seize

variable {p : Part} {k : Chan} {x : Code}

theorem Part.farSeize_idle (h : p.chans[k].state = .idle) : p.farSeize k x = p.seizedByFar k := by
  simp only [Part.farSeize, h]

theorem Part.farSeize_seizing (h : p.chans[k].state = .seizing) : p.farSeize k x = p.glare k := by
  simp only [Part.farSeize, h]

theorem Part.farSeize_incoming (h : p.chans[k].state = .incoming) : p.farSeize k x = p := by
  simp only [Part.farSeize, h]

theorem Part.farSeize_error (hidle : p.chans[k].state ≠ .idle) (hseizing : p.chans[k].state ≠ .seizing)
    (hincoming : p.chans[k].state ≠ .incoming) : p.farSeize k x = p.protocolError k x := by
  unfold Part.farSeize
  split
  case h_1 h => exact absurd h hidle
  case h_2 h => exact absurd h hseizing
  case h_3 h => exact absurd h hincoming
  case h_4 => rfl

/-- R95: glare takes the channel from the line that seized it, and the line gets it back with precedence. -/
theorem Part.glare_partner {n : Line} (h : p.chans[k].partner = some n) :
    p.glare k = ((p.breakChan k).seizedByFar k).glareReturn n := by
  simp only [Part.glare, h]

/-- R95, R96: the incoming call on a channel that has been taken from its line. -/
theorem Part.breakChan_markIncoming {n : Line} (h : p.chans[k].partner = some n) :
    (p.breakChan k).markIncoming k = (p.breakChan k).setChan k { p.chans[k] with
      direction := some .inward, callClass := some .normal, received := [], partner := none } := by
  rw [Part.markIncoming, Part.breakChan_self h]

/-- R96: an incoming seizure is rejected under CLEAR-CALLS. -/
theorem Part.seizedByFar_eq (p : Part) (k : Chan) :
    p.seizedByFar k =
      if p.clearing = true then (p.markIncoming k).enterChan k .rejecting (some .busy)
      else (p.markIncoming k).enterChan k .incoming := rfl

theorem Part.farProceed_seizing (h : p.chans[k].state = .seizing) :
    p.farProceed k x = p.enterChan k (if p.chans[k].sendList = [] then .awaitAnswer else .sending) := by
  simp only [Part.farProceed, h, List.isEmpty_iff]

theorem Part.farProceed_error (h : p.chans[k].state ≠ .seizing) : p.farProceed k x = p.protocolError k x := by
  unfold Part.farProceed
  split
  case h_1 hst => exact absurd hst h
  case h_2 => rfl

end Seize

/-! ## The digits of an incoming call and its END (R97, R98) -/

section Incoming

variable {p : Part} {k : Chan} {x : Code}

theorem Part.farDigit_incoming (d : Dec) (h : p.chans[k].state = .incoming) :
    p.farDigit k d x =
      if p.chans[k].received.length < 4 then p.setChan k { p.chans[k] with received := p.chans[k].received ++ [d] }
      else p := by
  simp only [Part.farDigit, h]

theorem Part.farDigit_error (d : Dec) (h : p.chans[k].state ≠ .incoming) : p.farDigit k d x = p.protocolError k x := by
  unfold Part.farDigit
  split
  case h_1 hst => exact absurd hst h
  case h_2 => rfl

/-- R98: the received digits name a line only when they are two. -/
theorem Part.calledLine_notTwo (h : p.chans[k].received.length ≠ 2) : p.calledLine k = none := by
  unfold Part.calledLine
  split
  case h_1 htwo => exact absurd (congrArg List.length htwo) h
  case h_2 => rfl

theorem Part.calledLine_two {tens units : Dec} (h : p.chans[k].received = [tens, units]) :
    p.calledLine k = p.stationLine (10 * tens.val + units.val) := by
  simp only [Part.calledLine, h, stationOf]

theorem Part.incomingCall_busy {n : Line} (h : p.lines[n].state ≠ .idle) :
    p.incomingCall k n = p.enterChan k .rejecting (some .busy) := if_neg h

theorem Part.incomingCall_rings {n : Line} (h : p.lines[n].state = .idle) :
    p.incomingCall k n = ((((p.setPartner n (some (.chan k)) (some .called)).setChanPartner k (some n)).enterLine n
      .alerting).alertRequest n).enterChan k .ringingIn := if_pos h

theorem Part.farEnd_clearing (h : p.chans[k].state = .incoming) (hclear : p.clearing = true) :
    p.farEnd k x = p.enterChan k .rejecting (some .busy) := by
  simp only [Part.farEnd, h, hclear, if_true]

theorem Part.farEnd_vacant (h : p.chans[k].state = .incoming) (hclear : p.clearing = false)
    (hnone : p.calledLine k = none) : p.farEnd k x = p.enterChan k .rejecting (some .vacant) := by
  simp only [Part.farEnd, h, hclear, hnone, Bool.false_eq_true, if_false]

theorem Part.farEnd_calls {n : Line} (h : p.chans[k].state = .incoming) (hclear : p.clearing = false)
    (hline : p.calledLine k = some n) : p.farEnd k x = p.incomingCall k n := by
  simp only [Part.farEnd, h, hclear, hline, Bool.false_eq_true, if_false]

theorem Part.farEnd_error (h : p.chans[k].state ≠ .incoming) : p.farEnd k x = p.protocolError k x := by
  unfold Part.farEnd
  split
  case h_1 hst => exact absurd hst h
  case h_2 => rfl

end Incoming

/-! ## RINGING, ANSWER, BUSY and VACANT (R33, R93) -/

section Answered

variable {p : Part} {k : Chan} {x : Code}

theorem Part.farRinging_awaitAnswer (h : p.chans[k].state = .awaitAnswer) : p.farRinging k x = p := by
  simp only [Part.farRinging, h]

theorem Part.farRinging_error (h : p.chans[k].state ≠ .awaitAnswer) : p.farRinging k x = p.protocolError k x := by
  unfold Part.farRinging
  split
  case h_1 hst => exact absurd hst h
  case h_2 => rfl

/-- R33: the far ANSWER brings a line in TRUNK-SETUP to TALK as the answered caller. -/
theorem Part.answeredByFar_trunkSetup {n : Line} (h : p.lines[n].state = .trunkSetup) :
    p.answeredByFar n = (p.setLine n { p.lines[n] with answeredAsCaller := true }).enterLine n .talk := if_pos h

theorem Part.farAnswer_awaitAnswer {n : Line} (h : p.chans[k].state = .awaitAnswer) (hn : p.chans[k].partner = some n) :
    p.farAnswer k x = (p.enterChan k .talk).answeredByFar n := by
  simp only [Part.farAnswer, h, hn]

/-- R33, R93: both ends of an answered outgoing call go to TALK. -/
theorem Part.farAnswer_trunkSetup {n : Line} (h : p.chans[k].state = .awaitAnswer) (hn : p.chans[k].partner = some n)
    (hline : p.lines[n].state = .trunkSetup) :
    p.farAnswer k x =
      ((p.enterChan k .talk).setLine n { p.lines[n] with answeredAsCaller := true }).enterLine n .talk := by
  have hlines : (p.enterChan k .talk).lines = p.lines := Part.enterChan_lines ..
  rw [Part.farAnswer_awaitAnswer h hn, Part.answeredByFar_trunkSetup (by rw [hlines]; exact hline), hlines]

theorem Part.farAnswer_error (h : p.chans[k].state ≠ .awaitAnswer) : p.farAnswer k x = p.protocolError k x := by
  unfold Part.farAnswer
  split
  case h_1 hst _ => exact absurd hst h
  case h_2 hst _ => exact absurd hst h
  case h_3 => rfl

theorem Part.farReject_ends {n : Line} (cause : Cause)
    (h : p.chans[k].state = .sending ∨ p.chans[k].state = .awaitAnswer) (hn : p.chans[k].partner = some n) :
    p.farReject k cause x = ((p.breakChan k).enterChan k .clearing).dropLine n cause := by
  rw [← Part.endCall_some _ _ hn]
  rcases h with h | h <;> simp only [Part.farReject, h]

theorem Part.farReject_error (cause : Cause) (hsending : p.chans[k].state ≠ .sending)
    (hawait : p.chans[k].state ≠ .awaitAnswer) : p.farReject k cause x = p.protocolError k x := by
  unfold Part.farReject
  split
  case h_1 h => exact absurd h hsending
  case h_2 h => exact absurd h hawait
  case h_3 => rfl

end Answered

/-- Settles O38, code by code of Table 5-7. -/
theorem acceptedCodesThatSetUpCalls : Obligations.AcceptedCodesThatSetUpCalls := by
  intro p k hfault _ c state error seized enters
  refine ⟨fun h => (Part.accept_seize hfault).trans (Part.farSeize_idle h), fun n h hn => ?glare,
    fun h => (Part.accept_seize hfault).trans (Part.farSeize_incoming h),
    fun hidle hseizing hincoming => (Part.accept_seize hfault).trans (Part.farSeize_error hidle hseizing hincoming),
    fun h => (Part.accept_proceed hfault).trans (Part.farProceed_seizing h),
    fun h => (Part.accept_proceed hfault).trans (Part.farProceed_error h),
    fun h hclear => (Part.accept_ending hfault).trans (Part.farEnd_clearing h hclear), fun h hclear => ?ending,
    fun h => (Part.accept_ending hfault).trans (Part.farEnd_error h),
    fun h => (Part.accept_ringing hfault).trans (Part.farRinging_awaitAnswer h),
    fun h => (Part.accept_ringing hfault).trans (Part.farRinging_error h),
    fun n h hn hline => (Part.accept_answer hfault).trans (Part.farAnswer_trunkSetup h hn hline),
    fun h => (Part.accept_answer hfault).trans (Part.farAnswer_error h),
    fun n h hn => ⟨(Part.accept_busy hfault).trans (Part.farReject_ends .busy h hn),
      (Part.accept_vacant hfault).trans (Part.farReject_ends .unobtainable h hn)⟩,
    fun hsending hawait => ⟨(Part.accept_busy hfault).trans (Part.farReject_error .busy hsending hawait),
      (Part.accept_vacant hfault).trans (Part.farReject_error .unobtainable hsending hawait)⟩,
    fun d x hx => ⟨fun h => (Part.accept_digit hfault hx).trans (Part.farDigit_incoming d h),
      fun h => (Part.accept_digit hfault hx).trans (Part.farDigit_error d h)⟩,
    fun station n => Part.stationLine_holds, fun hdistinct n => Part.stationLine_own hdistinct⟩
  case glare =>
    rw [Part.accept_seize hfault, Part.farSeize_seizing h, Part.glare_partner hn, Part.seizedByFar_eq,
      Part.breakChan_markIncoming hn, Part.breakChan_clearing]
  case ending =>
    have vacant (hnone : p.calledLine k = none) : p.accept k 3 = p.enterChan k .rejecting (some .vacant) :=
      (Part.accept_ending hfault).trans (Part.farEnd_vacant h hclear hnone)
    refine ⟨fun hlength => vacant (Part.calledLine_notTwo hlength),
      fun tens units htwo hnone => vacant ((Part.calledLine_two htwo).trans hnone), fun tens units n htwo hline => ?_⟩
    have calls : p.accept k 3 = p.incomingCall k n :=
      (Part.accept_ending hfault).trans (Part.farEnd_calls h hclear ((Part.calledLine_two htwo).trans hline))
    exact ⟨fun hbusy => calls.trans (Part.incomingCall_busy hbusy),
      fun hidle => calls.trans (Part.incomingCall_rings hidle)⟩

/-! ## IDLE, CLEAR and BLOCKED (R102, R103, R105) -/

section Release

variable {p : Part} {k : Chan} {x : Code}

theorem Part.farIdle_stays (h : p.chans[k].state = .idle ∨ p.chans[k].state = .seizing) : p.farIdle k x = p := by
  rcases h with h | h <;> simp only [Part.farIdle, h]

theorem Part.farIdle_rests
    (h : p.chans[k].state = .clearing ∨ p.chans[k].state = .releasing ∨ p.chans[k].state = .blockedFar) :
    p.farIdle k x = p.restChan k .idle := by
  rcases h with h | h | h <;> simp only [Part.farIdle, h]

/-- R107: a far IDLE in a call is a protocol abort. -/
theorem Part.farIdle_aborts
    (h : p.chans[k].state = .sending ∨ p.chans[k].state = .awaitAnswer ∨ p.chans[k].state = .incoming ∨
      p.chans[k].state = .ringingIn ∨ p.chans[k].state = .rejecting ∨ p.chans[k].state = .talk) :
    p.farIdle k x = ((p.protocolError k x).dropPartner k .congestion).restChan k .idle := by
  rcases h with h | h | h | h | h | h <;> simp only [Part.farIdle, h]

theorem Part.farClear_ends
    (h : p.chans[k].state = .seizing ∨ p.chans[k].state = .sending ∨ p.chans[k].state = .awaitAnswer ∨
      p.chans[k].state = .incoming ∨ p.chans[k].state = .ringingIn ∨ p.chans[k].state = .rejecting ∨
      p.chans[k].state = .talk ∨ p.chans[k].state = .clearing) : p.farClear k x = p.endCall k .releasing .busy := by
  rcases h with h | h | h | h | h | h | h | h <;> simp only [Part.farClear, h]

theorem Part.farClear_error
    (h : p.chans[k].state = .idle ∨ p.chans[k].state = .releasing ∨ p.chans[k].state = .blockedFar) :
    p.farClear k x = p.protocolError k x := by
  rcases h with h | h | h <;> simp only [Part.farClear, h]

theorem Part.farBlocked_blocks (hoffline : p.chans[k].state ≠ .offline) (hfault : p.chans[k].state ≠ .fault)
    (hblocked : p.chans[k].state ≠ .blockedFar) :
    p.farBlocked k = (p.dropPartner k .congestion).restChan k .blockedFar := by
  unfold Part.farBlocked
  split
  case h_1 h => exact absurd h hoffline
  case h_2 h => exact absurd h hfault
  case h_3 h => exact absurd h hblocked
  case h_4 => rfl

theorem Part.farBlocked_blockedFar (h : p.chans[k].state = .blockedFar) : p.farBlocked k = p := by
  simp only [Part.farBlocked, h]

end Release

/-! ## Codes in FAULT (R106) -/

/-- R106: in FAULT, IDLE starts the recovery timer and every other code stops it. -/
theorem Part.accept_fault {p : Part} {k : Chan} (x : Code) (h : p.chans[k].state = .fault) :
    p.accept k x = p.setChan k { p.chans[k] with timer := if x = 0 then .started else .stopped } := by
  simp only [Part.accept, h, if_true, Part.farInFault, SignalCode.ofCode_idle_iff]

/-- Settles O39: IDLE, CLEAR and BLOCKED by the class of the state, and every code in FAULT. -/
theorem acceptedCodesThatRelease : Obligations.AcceptedCodesThatRelease := by
  intro p k c state error dropped
  have hdropped (q : Part) (hq : q.chans[k].partner = c.partner) : q.dropPartner k .congestion = dropped q := by
    cases hpartner : c.partner with
    | none => simp only [dropped, hpartner, Part.dropPartner_none _ (hq.trans hpartner)]
    | some n => simp only [dropped, hpartner, Part.dropPartner_some _ (hq.trans hpartner)]
  refine ⟨fun h => ?stays, fun h => ?rests, fun h => ?aborts, fun h => ?clears, fun h => ?clearError,
    fun hoffline hfault hblocked => ?blocks, fun h => ?blocked, fun h => Part.accept_fault 0 h,
    fun x h hx => (Part.accept_fault x h).trans (by rw [if_neg hx]; rfl), fun st => rfl, fun hnone => ⟨fun h => ?busy,
      fun h hclear => ?clearing⟩⟩
  case stays =>
    have hfault : state ≠ .fault := fun hf => by simp [hf] at h
    exact (Part.accept_idle hfault).trans (Part.farIdle_stays h)
  case rests =>
    have hfault : state ≠ .fault := fun hf => by simp [hf] at h
    exact (Part.accept_idle hfault).trans (Part.farIdle_rests h)
  case aborts =>
    have hfault : state ≠ .fault := fun hf => by simp [hf] at h
    have hpartner : (p.protocolError k 0).chans[k].partner = c.partner := by rw [Part.protocolError, Part.hand_chans]
    rw [Part.accept_idle hfault, Part.farIdle_aborts h, hdropped _ hpartner]
    rfl
  case clears =>
    have hfault : state ≠ .fault := fun hf => by simp [hf] at h
    rw [Part.accept_clear hfault, Part.farClear_ends h]
    cases hpartner : c.partner with
    | none => exact Part.endCall_none _ _ hpartner
    | some n => exact Part.endCall_some _ _ hpartner
  case clearError =>
    have hfault : state ≠ .fault := fun hf => by simp [hf] at h
    exact (Part.accept_clear hfault).trans (Part.farClear_error h)
  case blocks =>
    rw [Part.accept_blocked hfault, Part.farBlocked_blocks hoffline hfault hblocked, hdropped p rfl]
    rfl
  case blocked =>
    have hfault : state ≠ .fault := by rw [h]; decide
    exact (Part.accept_blocked hfault).trans (Part.farBlocked_blockedFar h)
  case busy => exact (Part.leave_none hnone).trans (if_neg h)
  case clearing => exact (Part.leave_none hnone).trans ((if_pos h).trans (Part.channelFree_clearing hclear))

end Sys2Proof.Machine
end

section
/-! The timers of a channel, its stall watch and the link changes handed to it, and then the statements about them (R89, R92,
R94, R99, R104, R106, R109, R110). -/

namespace Sys2Proof.Machine

/-! ## The state timer (R92, R94, R99, R104, R106) -/

section StateTimer

variable {p : Part} {k : Chan}

/-- An expiry of the channel's state timer stands when the timer is due in a state of its row. -/
theorem Part.chanTimerDue_of {states : ChanState → Bool} (hdue : p.chans[k].timer.due = true)
    (hst : states p.chans[k].state = true) : p.chanTimerDue k states = true := by
  rw [Part.chanTimerDue, hst, hdue, Bool.and_self]

theorem Part.handChanFault_partner (p : Part) (k : Chan) (reason : Nat) :
    (p.handChanFault k reason).chans[k].partner = p.chans[k].partner := by
  rw [Part.handChanFault, Part.hand_chans]

theorem Part.seizeLimitExpired_partner {n : Line} (h : p.chans[k].partner = some n) :
    p.seizeLimitExpired k = (((p.handChanFault k 0).breakChan k).restChan k .fault).glareReturn n := by
  simp only [Part.seizeLimitExpired, Part.handChanFault_partner, h]

theorem Part.digitGapExpired_next (h : p.chans[k].sendPosition + 1 < p.chans[k].sendList.length) :
    p.digitGapExpired k = p.setChan k { p.chans[k] with
      sendPosition := p.chans[k].sendPosition + 1, sendPhase := .digit, timer := .started } := if_pos h

theorem Part.digitGapExpired_last (h : p.chans[k].sendList.length ≤ p.chans[k].sendPosition + 1) :
    p.digitGapExpired k = p.enterChan k .awaitAnswer := if_neg (Nat.not_lt.mpr h)

end StateTimer

section Expiry

variable {s : State} {k : Chan} (hlive : s.live) (hdue : s.part.chans[k].timer.due = true)
include hlive hdue

theorem exec_seizeLimitExpiry {q : Part} (hst : s.part.chans[k].state = .seizing) (hq : s.part.seizeLimitExpired k = q) :
    exec (.seizeLimitExpiry k) s = .next (s.after q) := by
  subst hq
  exact congrArg _ (State.eventIf_after (due := (·.seizeLimitDue k)) (act := (·.seizeLimitExpired k)) hlive
    (Part.chanTimerDue_of hdue (by rw [hst]; rfl)))

theorem exec_digitHoldExpiry (hst : s.part.chans[k].state = .sending) (hphase : s.part.chans[k].sendPhase = .digit) :
    exec (.digitHoldExpiry k) s = .next (s.after (s.part.digitHoldExpired k)) := by
  have hd : s.part.digitHoldDue k = true := by
    rw [Part.digitHoldDue, Part.chanTimerDue_of hdue (by rw [hst]; rfl), hphase]
    rfl
  exact congrArg _ (State.eventIf_after (due := (·.digitHoldDue k)) (act := (·.digitHoldExpired k)) hlive hd)

theorem exec_digitGapExpiry {q : Part} (hst : s.part.chans[k].state = .sending) (hphase : s.part.chans[k].sendPhase = .gap)
    (hq : s.part.digitGapExpired k = q) : exec (.digitGapExpiry k) s = .next (s.after q) := by
  subst hq
  have hd : s.part.digitGapDue k = true := by
    rw [Part.digitGapDue, Part.chanTimerDue_of hdue (by rw [hst]; rfl), hphase]
    rfl
  exact congrArg _ (State.eventIf_after (due := (·.digitGapDue k)) (act := (·.digitGapExpired k)) hlive hd)

theorem exec_incomingDigitLimitExpiry (hst : s.part.chans[k].state = .incoming) :
    exec (.incomingDigitLimitExpiry k) s = .next (s.after (s.part.incomingLimitExpired k)) :=
  congrArg _ (State.eventIf_after (due := (·.incomingLimitDue k)) (act := (·.incomingLimitExpired k)) hlive
    (Part.chanTimerDue_of hdue (by rw [hst]; rfl)))

theorem exec_releaseGuardExpiry (hst : s.part.chans[k].state = .clearing ∨ s.part.chans[k].state = .releasing ∨
      s.part.chans[k].state = .rejecting) :
    exec (.releaseGuardExpiry k) s = .next (s.after (s.part.releaseGuardExpired k)) :=
  congrArg _ (State.eventIf_after (due := (·.releaseGuardDue k)) (act := (·.releaseGuardExpired k)) hlive
    (Part.chanTimerDue_of hdue (by rcases hst with hst | hst | hst <;> rw [hst] <;> rfl)))

theorem exec_recoveryTimeExpiry (hst : s.part.chans[k].state = .fault) :
    exec (.recoveryTimeExpiry k) s = .next (s.after (s.part.recoveryExpired k)) :=
  congrArg _ (State.eventIf_after (due := (·.recoveryDue k)) (act := (·.recoveryExpired k)) hlive
    (Part.chanTimerDue_of hdue (by rw [hst]; rfl)))

end Expiry

/-- Settles O40, row by row. -/
theorem channelTimersExpire : Obligations.ChannelTimersExpire := by
  intro s k hlive hdue p c gives
  refine ⟨fun n hst hn => exec_seizeLimitExpiry hlive hdue hst (Part.seizeLimitExpired_partner hn),
    fun hst hphase => exec_digitHoldExpiry hlive hdue hst hphase,
    fun hst hphase => ⟨fun hnext => exec_digitGapExpiry hlive hdue hst hphase (Part.digitGapExpired_next hnext),
      fun hlast => exec_digitGapExpiry hlive hdue hst hphase (Part.digitGapExpired_last hlast)⟩,
    fun hst => exec_incomingDigitLimitExpiry hlive hdue hst, fun hst => exec_releaseGuardExpiry hlive hdue hst,
    fun hst => exec_recoveryTimeExpiry hlive hdue hst⟩

/-! ## The stall watch (R89) -/

section Stall

variable {p : Part} {k : Chan}

/-- The report of a stall, with the state that the channel stalled in. -/
def Part.handStall (p : Part) (k : Chan) : Part :=
  p.hand .chanStall (.chan k) (detail1 p.chans[k].state.item.toNat) absentWord

theorem Part.handStall_chans (p : Part) (k : Chan) : (p.handStall k).chans = p.chans := Part.hand_chans ..

theorem Part.stallExpired_fault (h : p.chans[k].state = .fault) :
    p.stallExpired k = (p.handStall k).setChan k { p.chans[k].stalled with timer := .stopped } := by
  rw [← Part.handStall_chans p k] at h ⊢
  exact if_pos h

/-- R89: outside FAULT a stall tears the call down and the channel goes to FAULT. -/
theorem Part.stallExpired_call (h : p.chans[k].state ≠ .fault) :
    p.stallExpired k =
      (((p.handStall k).setChan k p.chans[k].stalled).dropPartner k .congestion).restChan k .fault := by
  rw [← Part.handStall_chans p k] at h ⊢
  exact if_neg h

theorem Part.setChan_partner (p : Part) (k : Chan) (c : ChanRecord) : (p.setChan k c).chans[k].partner = c.partner := by
  rw [Part.setChan_chans, getElem_set_fin_same]

end Stall

theorem exec_stallExpiry {s : State} {k : Chan} {q : Part} (hlive : s.live) (hst : s.part.chans[k].state ≠ .offline)
    (hdue : s.part.chans[k].stall.due = true) (hq : s.part.stallExpired k = q) :
    exec (.stallExpiry k) s = .next (s.after q) := by
  subst hq
  have hd : s.part.stallDue k = true := by rw [Part.stallDue, hdue, bne_iff_ne.mpr hst, Bool.and_self]
  exact congrArg _ (State.eventIf_after (due := (·.stallDue k)) (act := (·.stallExpired k)) hlive hd)

/-! ## Link changes (R109, R110) -/

/-- The part with the oldest link change handed to a channel taken. -/
def Part.changeTaken (p : Part) (k : Chan) : Part := p.setLinkChanges k p.chans[k].linkChanges.tail

section LinkChanges

variable {p : Part} {k : Chan}

theorem Part.changeTaken_self (p : Part) (k : Chan) :
    (p.changeTaken k).chans[k] = { p.chans[k] with linkChanges := p.chans[k].linkChanges.tail } :=
  getElem_set_fin_same ..

theorem Part.changeTaken_state (p : Part) (k : Chan) : (p.changeTaken k).chans[k].state = p.chans[k].state := by
  rw [Part.changeTaken_self]

theorem Part.changeTaken_partner (p : Part) (k : Chan) : (p.changeTaken k).chans[k].partner = p.chans[k].partner := by
  rw [Part.changeTaken_self]

theorem Part.channelUp_enters (hst : p.chans[k].state = .offline) (hon : p.chans[k].config.enabled = true) :
    p.channelUp k = (p.changeTaken k).restChan k .idle :=
  if_pos (by rw [← Part.changeTaken, Part.changeTaken_self]; exact ⟨hst, hon⟩)

theorem Part.channelUp_stays (h : p.chans[k].state ≠ .offline ∨ p.chans[k].config.enabled = false) :
    p.channelUp k = p.changeTaken k := by
  refine if_neg ?_
  rw [← Part.changeTaken, Part.changeTaken_self]
  rintro ⟨hst, hon⟩
  rcases h with h | h
  · exact h hst
  · exact nomatch h.symm.trans hon

theorem Part.channelDown_offline (h : p.chans[k].state = .offline) : p.channelDown k = p.changeTaken k := by
  have hst : (p.changeTaken k).chans[k].state = .offline := (Part.changeTaken_state p k).trans h
  unfold Part.changeTaken at hst ⊢
  simp only [Part.channelDown, hst]

/-- R110: a channel that has only seized gives its line back with glare precedence. -/
theorem Part.channelDown_seizing {n : Line} (h : p.chans[k].state = .seizing) (hn : p.chans[k].partner = some n) :
    p.channelDown k = (((p.changeTaken k).breakChan k).restChan k .offline).glareReturn n := by
  have hst : (p.changeTaken k).chans[k].state = .seizing := (Part.changeTaken_state p k).trans h
  have hpartner : (p.changeTaken k).chans[k].partner = some n := (Part.changeTaken_partner p k).trans hn
  unfold Part.changeTaken at hst hpartner ⊢
  simp only [Part.channelDown, hst, hpartner]

/-- R110: any other channel with a line ends the line's call. -/
theorem Part.channelDown_call {n : Line} (hoffline : p.chans[k].state ≠ .offline) (hseizing : p.chans[k].state ≠ .seizing)
    (hn : p.chans[k].partner = some n) :
    p.channelDown k = (((p.changeTaken k).breakChan k).restChan k .offline).dropLine n .congestion := by
  rw [← Part.changeTaken_state] at hoffline hseizing
  rw [← Part.changeTaken_partner] at hn
  unfold Part.channelDown
  simp only
  split
  case h_1 h => exact absurd h hoffline
  case h_2 h _ => exact absurd h hseizing
  case h_3 m hm _ _ => rw [← Option.some.inj (hn.symm.trans hm)]; rfl
  case h_4 hnone _ => exact nomatch hn.symm.trans hnone

theorem Part.channelDown_alone (hoffline : p.chans[k].state ≠ .offline) (hn : p.chans[k].partner = none) :
    p.channelDown k = (p.changeTaken k).restChan k .offline := by
  rw [← Part.changeTaken_state] at hoffline
  rw [← Part.changeTaken_partner] at hn
  unfold Part.channelDown
  simp only
  split
  case h_1 h => exact absurd h hoffline
  case h_2 hsome => exact nomatch hn.symm.trans hsome
  case h_3 hsome _ _ => exact nomatch hn.symm.trans hsome
  case h_4 => rfl

end LinkChanges

section TakesChange

variable {s : State} {k : Chan} {rest : List LinkChange} {q : Part} (hlive : s.live)
include hlive

theorem exec_channelLinkUp (h : s.part.chans[k].linkChanges = .up :: rest) (hq : s.part.channelUp k = q) :
    exec (.channelLinkUp k) s = .next (s.after q) := by
  subst hq
  have hdue : s.part.linkChangeIs k .up = true := by rw [Part.linkChangeIs, h]; rfl
  exact congrArg _ (State.eventIf_after (due := (·.linkChangeIs k .up)) (act := (·.channelUp k)) hlive hdue)

theorem exec_channelLinkDown (h : s.part.chans[k].linkChanges = .down :: rest) (hq : s.part.channelDown k = q) :
    exec (.channelLinkDown k) s = .next (s.after q) := by
  subst hq
  have hdue : s.part.linkChangeIs k .down = true := by rw [Part.linkChangeIs, h]; rfl
  exact congrArg _ (State.eventIf_after (due := (·.linkChangeIs k .down)) (act := (·.channelDown k)) hlive hdue)

end TakesChange

/-- Settles O41: the stall by FAULT and the partner, then the change taken and the channel's state and partner. -/
theorem stallAndLinkChangesOfAChannel : Obligations.StallAndLinkChangesOfAChannel := by
  refine ⟨?stall, ?link⟩
  case stall =>
    intro s k hlive hst hdue c p silent gives
    have stalls {q : Part} (hq : s.part.stallExpired k = q) : gives q := exec_stallExpiry hlive hst hdue hq
    have hpartner : (p.setChan k silent).chans[k].partner = c.partner := Part.setChan_partner ..
    refine ⟨fun hfault => stalls (Part.stallExpired_fault hfault), fun hcall hnone => ?_, fun n hcall hn => ?_⟩
    · have hdrop := Part.dropPartner_none .congestion (hpartner.trans hnone)
      exact stalls ((Part.stallExpired_call hcall).trans (congrArg (·.restChan k .fault) hdrop))
    · have hdrop := Part.dropPartner_some .congestion (hpartner.trans hn)
      exact stalls ((Part.stallExpired_call hcall).trans (congrArg (·.restChan k .fault) hdrop))
  case link =>
    intro s k change rest hlive hchange c p up down
    have htaken : s.part.changeTaken k = p := by rw [Part.changeTaken, hchange]; rfl
    have goesUp {q : Part} (hq : s.part.channelUp k = q) : up q := by
      rintro rfl
      exact exec_channelLinkUp hlive hchange hq
    have goesDown {q : Part} (hq : s.part.channelDown k = q) : down q := by
      rintro rfl
      exact exec_channelLinkDown hlive hchange hq
    rw [← htaken]
    exact ⟨fun hst hon => goesUp (Part.channelUp_enters hst hon), fun h => goesUp (Part.channelUp_stays h),
      fun hst => goesDown (Part.channelDown_offline hst), fun n hst hn => goesDown (Part.channelDown_seizing hst hn),
      fun n hoffline hseizing hn => goesDown (Part.channelDown_call hoffline hseizing hn),
      fun hoffline hnone => goesDown (Part.channelDown_alone hoffline hnone)⟩

end Sys2Proof.Machine
end

section
/-! The signal codes and the signal-in writes: the install of a code, the run of a code and its acceptance, and then the
statements about them (R86, R87, R89). -/

namespace Sys2Proof.Machine

/-! ## The install of a code (R86) -/

section InstallCode

variable {p : Part} {x : Code} {w : Word}

/-- R86: another installed code holds the value. -/
theorem Part.codeTaken_iff (p : Part) (x : Code) (w : Word) :
    ((List.finRange 20).any fun y => y != x && p.codes[y] == some w) = true ↔
      ∃ y : Code, y ≠ x ∧ p.codes[y] = some w := by
  simp only [List.any_eq_true, List.mem_finRange, true_and, Bool.and_eq_true, bne_iff_ne, beq_iff_eq]

theorem Part.installCode_refused {y : Code} (hne : y ≠ x) (hy : p.codes[y] = some w) :
    p.installCode x w = p.tableRefused (.code x) .duplicate := if_pos ((p.codeTaken_iff x w).mpr ⟨y, hne, hy⟩)

theorem Part.installCode_installs (h : ∀ y : Code, y ≠ x → p.codes[y] ≠ some w) :
    p.installCode x w = { p with codes := p.codes.set x.val (some w) } := by
  refine if_neg fun htaken => ?_
  obtain ⟨y, hne, hy⟩ := (p.codeTaken_iff x w).mp htaken
  exact h y hne hy

end InstallCode

theorem exec_signalCodeInstall {s : State} {x : Code} {w : Word} {q : Part} (h : s.takesWrite (0x150 + x.val) w)
    (hq : s.part.installCode x w = q) :
    exec (.signalCodeInstall x w) s = .next ((s.served (0x150 + x.val) w).after q) := by
  subst hq
  exact congrArg _ (State.snooped_after (act := (·.installCode x w)) h)

/-- Settles O42, by whether another code holds the value. -/
theorem codeInstallRefusesADuplicate : Obligations.CodeInstallRefusesADuplicate := by
  intro s x w htakes gives
  exact ⟨fun y hne hy => exec_signalCodeInstall htakes (Part.installCode_refused hne hy),
    fun hfree => exec_signalCodeInstall htakes (Part.installCode_installs hfree)⟩

/-! ## The code that a value matches (R87) -/

section Matching

variable {p : Part} {w : Word}

theorem Part.matchingCode_none (h : ∀ x : Code, p.codes[x] ≠ some w) : p.matchingCode w = none :=
  List.find?_eq_none.mpr fun x _ hx => h x (beq_iff_eq.mp hx)

/-- R86, R87: with distinct installed codes the code that holds a value is the one matched. -/
theorem Part.matchingCode_some {x : Code} (hdistinct : p.codesDistinct) (hx : p.codes[x] = some w) :
    p.matchingCode w = some x := by
  refine find_finRange _ x (beq_iff_eq.mpr hx) fun y hlt => beq_eq_false_iff_ne.mpr fun hy => ?_
  exact Fin.ne_of_lt hlt (hdistinct y x w hy hx)

end Matching

/-! ## A signal-in write (R87, R89) -/

section SignalIn

variable {p : Part} {k : Chan} {w : Word}

theorem Part.signalIn_offline (h : p.chans[k].state = .offline) : p.signalIn k w = p := if_pos h

theorem Part.signalIn_unrecognised (hst : p.chans[k].state ≠ .offline) (h : ∀ x : Code, p.codes[x] ≠ some w) :
    p.signalIn k w = p.setChan k { p.chans[k].heard with candidate := none, run := 0 } := by
  simp only [Part.signalIn, hst, if_false, Part.matchingCode_none h]

variable {x : Code} (hdistinct : p.codesDistinct) (hst : p.chans[k].state ≠ .offline) (hx : p.codes[x] = some w)
include hdistinct hst hx

theorem Part.signalIn_runs
    (h : (p.chans[k].heard.extendRun x).run < p.gen.persistence ∨ p.chans[k].accepted = some x) :
    p.signalIn k w = p.setChan k (p.chans[k].heard.extendRun x) := by
  simp only [Part.signalIn, hst, if_false, Part.matchingCode_some hdistinct hx]
  refine if_neg fun ⟨hrun, hnew⟩ => ?_
  rcases h with h | h
  · exact Nat.not_le.mpr h hrun
  · exact hnew h

/-- R87: a run of the persistence with a code other than the accepted one accepts it. -/
theorem Part.signalIn_accepts (hrun : p.gen.persistence ≤ (p.chans[k].heard.extendRun x).run)
    (hnew : p.chans[k].accepted ≠ some x) :
    p.signalIn k w = (p.setChan k { p.chans[k].heard.extendRun x with accepted := some x }).accept k x := by
  simp only [Part.signalIn, hst, if_false, Part.matchingCode_some hdistinct hx]
  exact if_pos ⟨hrun, hnew⟩

end SignalIn

theorem exec_signalInWrite {s : State} {k : Chan} {w : Word} {q : Part} (h : s.takesWrite (0x120 + k.val) w)
    (hq : s.part.signalIn k w = q) :
    exec (.signalInWrite k w) s = .next ((s.served (0x120 + k.val) w).after q) := by
  subst hq
  exact congrArg _ (State.snooped_after (act := (·.signalIn k w)) h)

/-- Settles O37, by the state and the code that the value matches. -/
theorem signalInRunsToAcceptance : Obligations.SignalInRunsToAcceptance := by
  intro s k w htakes hdistinct c stall gives
  have writes {q : Part} (hq : s.part.signalIn k w = q) : gives q := exec_signalInWrite htakes hq
  exact ⟨fun hst => writes (Part.signalIn_offline hst), fun hst hnone => writes (Part.signalIn_unrecognised hst hnone),
    fun x hst hx => ⟨fun h => writes (Part.signalIn_runs hdistinct hst hx h),
      fun hrun hnew => writes (Part.signalIn_accepts hdistinct hst hx hrun hnew)⟩⟩

end Sys2Proof.Machine
end

section
/-! The commit of a channel configuration: its check, the stall timer after it, the install by the old and the new enabled
fields, and then the statement about it (R89, R108, R168, Table 10-9). -/

namespace Sys2Proof.Machine

/-! ## The words of a channel configuration (R168) -/

theorem ChanConfig.ofWords_range {w0 w1 : Word} (h : w0.toNat < 10 ∨ 1000 < w0.toNat) :
    ChanConfig.ofWords w0 w1 = .error .range := if_pos h

theorem ChanConfig.ofWords_ok {w0 w1 : Word} (hlow : 10 ≤ w0.toNat) (hhigh : w0.toNat ≤ 1000) :
    ChanConfig.ofWords w0 w1 =
      .ok { enabled := w1.getLsbD 15, stallWatch := w1.getLsbD 14, stallLimit := w0.toNat } :=
  if_neg (not_or.mpr ⟨Nat.not_lt.mpr hlow, Nat.not_lt.mpr hhigh⟩)

section Commit

variable {p : Part} {k : Chan} {w : Word}

theorem Part.commitChanConfig_error {reason : RefusalReason}
    (h : ChanConfig.ofWords (p.copy (chanConfigOffset k 0)) w = .error reason) :
    p.commitChanConfig k w = p.tableRefused (.chanConfig k) reason := by
  simp only [Part.commitChanConfig, h]

theorem Part.commitChanConfig_installs {config : ChanConfig}
    (h : ChanConfig.ofWords (p.copy (chanConfigOffset k 0)) w = .ok config) :
    p.commitChanConfig k w = p.installChanConfig k config := by
  simp only [Part.commitChanConfig, h]

end Commit

/-! ## The install (R89, R108) -/

/-- R89: the stall timer stops without the watch, and starts when the watch comes on outside OFFLINE. -/
theorem ChanRecord.stallAfterInstall_eq (c : ChanRecord) (new : ChanConfig) :
    c.stallAfterInstall new =
      if new.stallWatch = false then .stopped
      else if c.config.stallWatch = true ∨ c.state = .offline then c.stall else .started := by
  simp only [ChanRecord.stallAfterInstall, Bool.not_eq_true', Bool.or_eq_true, beq_iff_eq]

/-- The channel record with a configuration installed. -/
def ChanRecord.configured (c : ChanRecord) (config : ChanConfig) : ChanRecord :=
  { c with config := config, stall := c.stallAfterInstall config }

section Install

variable {p : Part} {k : Chan} {config : ChanConfig}

/-- R108: with the enabled field unchanged nothing but the configuration and the stall timer changes. -/
theorem Part.installChanConfig_same (h : p.chans[k].config.enabled = config.enabled) :
    p.installChanConfig k config = p.setChan k (p.chans[k].configured config) := by
  cases hon : config.enabled <;> simp only [Part.installChanConfig, h, hon] <;> rfl

section Enables

variable (hold : p.chans[k].config.enabled = false) (hnew : config.enabled = true)
include hold hnew

/-- R108: an enabled OFFLINE channel goes to IDLE when the link is UP in RUNNING. -/
theorem Part.installChanConfig_offlineEnabled (hst : p.chans[k].state = .offline) :
    p.installChanConfig k config =
      if p.link.state = .up ∧ p.isRunning = true then (p.setChan k (p.chans[k].configured config)).restChan k .idle
      else p.setChan k (p.chans[k].configured config) := by
  simp only [Part.installChanConfig, hold, hnew]
  exact if_pos hst

theorem Part.installChanConfig_enabledAgain (hst : p.chans[k].state ≠ .offline) :
    p.installChanConfig k config = ((p.setChan k (p.chans[k].configured config)).setChan k
      { p.chans[k].configured config with draining := false }).judgeUnusable := by
  simp only [Part.installChanConfig, hold, hnew, Part.setChan_chans, getElem_set_fin_same]
  exact if_neg hst

end Enables

section Disables

variable (hold : p.chans[k].config.enabled = true) (hnew : config.enabled = false)
include hold hnew

theorem Part.installChanConfig_offlineDisabled (hst : p.chans[k].state = .offline) :
    p.installChanConfig k config = p.setChan k (p.chans[k].configured config) := by
  simp only [Part.installChanConfig, hold, hnew]
  exact if_pos hst

theorem Part.installChanConfig_restsOffline (hst : p.chans[k].state ≠ .offline) (hquiet : p.chans[k].state.quiet = true) :
    p.installChanConfig k config = (p.setChan k (p.chans[k].configured config)).restChan k .offline := by
  simp only [Part.installChanConfig, hold, hnew]
  exact (if_neg hst).trans (if_pos hquiet)

/-- R108: a disabled channel keeps its call and drains. -/
theorem Part.installChanConfig_drains (hquiet : p.chans[k].state.quiet = false) :
    p.installChanConfig k config = ((p.setChan k (p.chans[k].configured config)).setChan k
      { p.chans[k].configured config with draining := true }).judgeUnusable := by
  have hst : p.chans[k].state ≠ .offline := fun h => by rw [h] at hquiet; cases hquiet
  simp only [Part.installChanConfig, hold, hnew, Part.setChan_chans, getElem_set_fin_same]
  exact (if_neg hst).trans (if_neg (Bool.eq_false_iff.mp hquiet))

end Disables

end Install

theorem exec_channelConfigCommit {s : State} {k : Chan} {w : Word} {q : Part} (h : s.takesWrite (0x6C1 + 2 * k.val) w)
    (hq : s.part.commitChanConfig k w = q) :
    exec (.channelConfigCommit k w) s = .next ((s.served (0x6C1 + 2 * k.val) w).after q) := by
  subst hq
  have hoffset : chanConfigOffset k 1 = 0x6C1 + 2 * k.val := by unfold chanConfigOffset; omega
  rw [← hoffset] at h ⊢
  exact congrArg _ (State.snooped_after (act := (·.commitChanConfig k w)) h)

/-- Settles O46: the check of the commit, and the install by the enabled fields and the channel's state. -/
theorem channelConfigCommitActsOnTheChannel : Obligations.ChannelConfigCommitActsOnTheChannel := by
  intro s k w htakes limit enabled watch c stall installed p gives
  refine ⟨fun hrange => exec_channelConfigCommit htakes (Part.commitChanConfig_error (ChanConfig.ofWords_range hrange)),
    fun hlow hhigh => ?_⟩
  have hrecord : c.configured ⟨enabled, watch, limit⟩ = installed := by
    rw [ChanRecord.configured, ChanRecord.stallAfterInstall_eq]
    rfl
  have installs {q : Part} (hq : s.part.installChanConfig k ⟨enabled, watch, limit⟩ = q) : gives q :=
    exec_channelConfigCommit htakes ((Part.commitChanConfig_installs (ChanConfig.ofWords_ok hlow hhigh)).trans hq)
  simp only [p, ← hrecord]
  refine ⟨fun hsame => installs (Part.installChanConfig_same hsame), fun hold hnew => ⟨fun hst hup hmode => ?enters,
    fun hst hdown => ?stays, fun hst => installs (Part.installChanConfig_enabledAgain hold hnew hst)⟩,
    fun hold hnew => ⟨fun hst => installs (Part.installChanConfig_offlineDisabled hold hnew hst), fun hst => ?rests,
      fun hoffline hidle hfault hblocked => ?drains⟩⟩
  case enters =>
    have hready : s.part.link.state = .up ∧ s.part.isRunning = true := ⟨hup, Part.isRunning_running hmode⟩
    exact installs ((Part.installChanConfig_offlineEnabled hold hnew hst).trans (if_pos hready))
  case stays =>
    refine installs ((Part.installChanConfig_offlineEnabled hold hnew hst).trans (if_neg fun ⟨hup, hrunning⟩ => ?_))
    obtain hdown | hmode := hdown
    · exact hdown hup
    · exact nomatch (Part.isRunning_halted hmode).symm.trans hrunning
  case rests =>
    have hquiet : c.state.quiet = true := (ChanState.quiet_iff _).mpr (hst.imp_right .inr)
    have hoffline : c.state ≠ .offline := by rcases hst with h | h | h <;> rw [h] <;> decide
    exact installs (Part.installChanConfig_restsOffline hold hnew hoffline hquiet)
  case drains =>
    have hquiet : c.state.quiet = false := Bool.eq_false_iff.mpr fun h => by
      rcases (ChanState.quiet_iff _).mp h with h | h | h | h
      · exact hidle h
      · exact hoffline h
      · exact hfault h
      · exact hblocked h
    exact installs (Part.installChanConfig_drains hold hnew hquiet)

end Sys2Proof.Machine
end

section
/-! The link controller (06_the_backhaul_link.md): what entering a link state leaves of every block, what each event of the link
does by its state, the policy and the mode, and then the statement about them (R115 to R127). -/

namespace Sys2Proof.Machine

/-! ## The link record on entering a state (R115) -/

section LinkRecord

variable (l : Link) (st : LinkState) (origin : Option Origin)

theorem Link.enter_origin :
    (l.enter st origin).origin = if st = .starting then origin else if st = .up then l.origin else none := by
  cases st <;> rfl

theorem Link.enter_flags :
    ((l.enter st origin).demandFlag, (l.enter st origin).rememberedWake) =
      if st = .starting ∨ st = .off then (false, false) else (l.demandFlag, l.rememberedWake) := by
  cases st <;> rfl

/-- R121: the silence timer after its conditions have been judged. -/
def Link.silenceJudged (holds : Bool) : Timer :=
  if holds = true then (if l.silence.running = true then l.silence else .started) else .stopped

theorem Link.silenceJudged_ends : l.silenceJudged false = .stopped := rfl

theorem Link.enter_silence : (l.enter st origin).silence = if st = .up then l.silence else .stopped := rfl

end LinkRecord

/-! ## The link changes handed to the channels (R109, R110, R120, R122) -/

/-- R120, R122: what an entry of `new` from `old` hands to a channel. -/
def ChanRecord.linkPost (c : ChanRecord) (old new : LinkState) : List LinkChange :=
  if new = .up ∧ c.config.enabled = true ∧ (c.state = .offline ∨ c.linkChanges ≠ []) then [.up]
  else if new ≠ .up ∧ old = .up ∧ (c.state ≠ .offline ∨ c.linkChanges ≠ []) then [.down]
  else []

theorem Part.postLinkUp_chan (p : Part) (k : Chan) (old : LinkState) :
    p.postLinkUp.chans[k] = { p.chans[k] with
      linkChanges := p.chans[k].linkChanges ++ p.chans[k].linkPost old .up } := by
  simp only [Part.postLinkUp, Fin.getElem_fin, Vector.getElem_ofFn, ChanRecord.linkPost, Bool.and_eq_true,
    Bool.or_eq_true, beq_iff_eq, Bool.not_eq_true', List.isEmpty_eq_false_iff, true_and, ne_eq, not_true, false_and,
    if_false]
  split
  · rfl
  · rw [List.append_nil]

theorem Part.postLinkDown_chan (p : Part) (k : Chan) {new : LinkState} (h : new ≠ .up) :
    p.postLinkDown.chans[k] = { p.chans[k] with
      linkChanges := p.chans[k].linkChanges ++ p.chans[k].linkPost .up new } := by
  simp only [Part.postLinkDown, Fin.getElem_fin, Vector.getElem_ofFn, ChanRecord.linkPost, Bool.or_eq_true, bne_iff_ne,
    Bool.not_eq_true', List.isEmpty_eq_false_iff, h, false_and, if_false, ne_eq, not_false_eq_true, true_and]
  split
  · rfl
  · rw [List.append_nil]

theorem ChanRecord.linkPost_none (c : ChanRecord) {old new : LinkState} (hnew : new ≠ .up) (hold : old ≠ .up) :
    c.linkPost old new = [] := by
  simp only [ChanRecord.linkPost, hnew, hold, false_and, and_false, if_false]

/-! ## The link enters a state (R115, R120 to R122, R127) -/

/-- A record that is none of a snapshot changes the report writer alone. -/
theorem Part.hand_eq (p : Part) (kind : RecordKind) (x : Subject) (a b : Word) :
    p.hand kind x a b = { p with report := (p.hand kind x a b).report } := by
  unfold Part.hand Part.enqueueRecord
  split
  · split <;> rfl
  · rfl

/-- R62, R73: no mask is usable unless the link is UP. -/
theorem Part.maskUsable_linkDown {p : Part} (h : p.link.state ≠ .up) (mask : BitVec 16) : p.maskUsable mask = false := by
  rw [Bool.eq_false_iff, ne_eq, Part.maskUsable_iff]
  rintro ⟨k, -, -, -, hup, -⟩
  exact h hup

/-- R121: the silence timer runs in UP only. -/
theorem Part.silenceHolds_linkDown {p : Part} (h : p.link.state ≠ .up) : p.silenceHolds = false := by
  rw [Part.silenceHolds, beq_eq_false_iff_ne.2 h, Bool.false_and, Bool.false_and, Bool.false_and]

section EnterLink

variable (p : Part) (st : LinkState) (origin : Option Origin) (cause : LinkCause)

/-- The entry before the channels, the entries' timers and the silence timer: the link's record and the LINK-STATE record. -/
def Part.linkEntered : Part := { p with link := p.link.enter st origin }.handLinkState cause

theorem Part.linkEntered_eq :
    p.linkEntered st origin cause = { p with
      link := p.link.enter st origin, report := (p.linkEntered st origin cause).report } :=
  Part.hand_eq ..

theorem Part.linkEntered_link : (p.linkEntered st origin cause).link = p.link.enter st origin := Part.hand_link ..

theorem Part.linkEntered_chans : (p.linkEntered st origin cause).chans = p.chans := Part.hand_chans ..

theorem Part.linkEntered_alloc : (p.linkEntered st origin cause).alloc = p.alloc := Part.hand_alloc ..

variable {p st}

theorem Part.enterLink_leavesUp (hnew : st ≠ .up) (hold : p.link.state = .up) :
    p.enterLink st origin cause = (p.linkEntered st origin cause).postLinkDown.judgeUnusable :=
  (if_neg hnew).trans (if_pos hold)

theorem Part.enterLink_elsewhere (hnew : st ≠ .up) (hold : p.link.state ≠ .up) :
    p.enterLink st origin cause = p.linkEntered st origin cause :=
  (if_neg hnew).trans (if_neg hold)

/-- The three ways an entry goes: to UP, out of UP, and between two other states. -/
theorem Part.enterLink_cases {motive : LinkState → Part → Prop}
    (up : st = .up → motive .up ((p.linkEntered .up origin cause).postLinkUp.judgeSilence))
    (leavesUp : st ≠ .up → p.link.state = .up →
      motive st ((p.linkEntered st origin cause).postLinkDown.judgeUnusable))
    (elsewhere : st ≠ .up → p.link.state ≠ .up → motive st (p.linkEntered st origin cause)) :
    motive st (p.enterLink st origin cause) := by
  by_cases hnew : st = .up
  · subst hnew
    exact up rfl
  by_cases hold : p.link.state = .up
  · rw [Part.enterLink_leavesUp origin cause hnew hold]
    exact leavesUp hnew hold
  · rw [Part.enterLink_elsewhere origin cause hnew hold]
    exact elsewhere hnew hold

variable (p st)

/-- An entry changes the link, the channels, the allocator and the report writer, and nothing else. -/
theorem Part.enterLink_frame :
    p.enterLink st origin cause = { p with
      link := (p.enterLink st origin cause).link, chans := (p.enterLink st origin cause).chans
      alloc := (p.enterLink st origin cause).alloc, report := (p.linkEntered st origin cause).report } := by
  refine Part.enterLink_cases origin cause
    (motive := fun st q => q = { p with
      link := q.link, chans := q.chans, alloc := q.alloc, report := (p.linkEntered st origin cause).report })
    (fun _ => ?up) (fun _ _ => ?leavesUp) (fun _ _ => ?elsewhere)
  case up => rw [Part.linkEntered_eq]; rfl
  case leavesUp => rw [Part.linkEntered_eq]; rfl
  case elsewhere => rw [Part.linkEntered_eq]

/-- R121: the link's record after an entry, the silence timer judged afresh. -/
theorem Part.enterLink_link :
    (p.enterLink st origin cause).link = { p.link.enter st origin with
      silence := p.link.silenceJudged (p.enterLink st origin cause).silenceHolds } := by
  have stopped {q : Part} (hnew : st ≠ .up) (hq : q.link = p.link.enter st origin) :
      q.link = { p.link.enter st origin with silence := p.link.silenceJudged q.silenceHolds } := by
    have hdown : q.link.state ≠ .up := by rw [hq]; exact hnew
    have hsilence : (p.link.enter st origin).silence = .stopped := (Link.enter_silence ..).trans (if_neg hnew)
    rw [Part.silenceHolds_linkDown hdown, Link.silenceJudged_ends, hq, ← hsilence]
  refine Part.enterLink_cases origin cause
    (motive := fun st q => q.link = { p.link.enter st origin with silence := p.link.silenceJudged q.silenceHolds })
    (fun _ => ?up) (fun hnew _ => stopped hnew ?leavesUp) (fun hnew _ => stopped hnew (Part.linkEntered_link ..))
  case up =>
    have hlink : (p.linkEntered .up origin cause).postLinkUp.link = p.link.enter .up origin := Part.linkEntered_link ..
    have hholds := Part.silenceHolds_congr (p := (p.linkEntered .up origin cause).postLinkUp.judgeSilence)
      (q := (p.linkEntered .up origin cause).postLinkUp) rfl rfl rfl rfl
    rw [hholds, Part.judgeSilence_silence, hlink]
    rfl
  case leavesUp =>
    rw [Part.judgeUnusable_link]
    exact Part.linkEntered_link ..

theorem Part.enterLink_chan (k : Chan) :
    (p.enterLink st origin cause).chans[k] = { p.chans[k] with
      linkChanges := p.chans[k].linkChanges ++ p.chans[k].linkPost p.link.state st } := by
  refine Part.enterLink_cases origin cause
    (motive := fun st q => q.chans[k] = { p.chans[k] with
      linkChanges := p.chans[k].linkChanges ++ p.chans[k].linkPost p.link.state st })
    (fun _ => ?up) (fun hnew hold => ?leavesUp) (fun hnew hold => ?elsewhere)
  case up => rw [Part.judgeSilence_chans, Part.postLinkUp_chan _ _ p.link.state, Part.linkEntered_chans]
  case leavesUp => rw [Part.judgeUnusable_chans, Part.postLinkDown_chan _ _ hnew, Part.linkEntered_chans, hold]
  case elsewhere => rw [Part.linkEntered_chans, ChanRecord.linkPost_none _ hnew hold, List.append_nil]

variable {p st}

theorem Part.enterLink_alloc (h : ¬ (st ≠ .up ∧ p.link.state = .up)) :
    (p.enterLink st origin cause).alloc = p.alloc := by
  refine Part.enterLink_cases origin cause (motive := fun _ q => q.alloc = p.alloc)
    (fun _ => ?up) (fun hnew hold => absurd ⟨hnew, hold⟩ h) (fun _ _ => Part.linkEntered_alloc ..)
  case up =>
    rw [Part.judgeSilence_alloc]
    exact Part.linkEntered_alloc ..

/-- R73, R122: when the link leaves UP no mask has a usable channel, and every entry's unusable timer runs. -/
theorem Part.enterLink_waiters (hnew : st ≠ .up) (hold : p.link.state = .up) :
    (p.enterLink st origin cause).alloc = { p.alloc with waiters := (p.enterLink st origin cause).alloc.waiters } ∧
      ∀ n : Line, (p.enterLink st origin cause).alloc.waiters[n] = (p.alloc.waiters[n]).map fun e => { e with
        unusableTimer := if e.unusableTimer.running = true then e.unusableTimer else .started } := by
  have halloc : (p.linkEntered st origin cause).postLinkDown.alloc = p.alloc := Part.linkEntered_alloc ..
  have hdown : (p.linkEntered st origin cause).postLinkDown.link.state ≠ .up := by
    rw [show (p.linkEntered st origin cause).postLinkDown.link = p.link.enter st origin from Part.linkEntered_link ..]
    exact hnew
  rw [Part.enterLink_leavesUp origin cause hnew hold]
  refine ⟨?pointers, fun n => ?waiter⟩
  case pointers =>
    rw [← halloc]
    rfl
  case waiter =>
    rw [Part.judgeUnusable_waiter, halloc]
    simp only [Part.maskUsable_linkDown hdown, WaitEntry.judged_eq, Bool.false_eq_true, if_false]

variable (p st)

theorem Part.enterLink_report :
    (p.enterLink st origin cause).report = (p.hand .linkState .none
      (detail2 st.item (optItem Origin.item (p.enterLink st origin cause).link.origin)) (detail1 cause.item)).report := by
  rw [Part.enterLink_frame, Part.enterLink_link]
  exact Part.hand_report_congr _ _ _ _ rfl rfl rfl

theorem Part.linkEnable_iff : p.linkEnable = true ↔ p.link.state = .starting ∨ p.link.state = .up := by
  rw [Part.linkEnable, Bool.or_eq_true, beq_iff_eq, beq_iff_eq]

end EnterLink

/-! ## The events of the link (R116 to R119, R121 to R124) -/

/-- R66: demand is outstanding when a demand-raising entry waits without a usable channel. -/
theorem Part.demandOutstanding_iff (p : Part) :
    p.demandOutstanding = true ↔ ∃ (n : Line) (e : WaitEntry), p.alloc.waiters[n] = some e ∧
      (e.callClass ≠ .normal ∨ p.supply.warning = false) ∧ p.maskUsable e.mask = false := by
  have raising_iff (e : WaitEntry) : (p.demandRaising e && !p.maskUsable e.mask) = true ↔
      (e.callClass ≠ .normal ∨ p.supply.warning = false) ∧ p.maskUsable e.mask = false := by
    rw [Bool.and_eq_true, Bool.not_eq_true', Part.demandRaising_iff]
  unfold Part.demandOutstanding
  rw [List.any_eq_true]
  constructor
  · rintro ⟨w, hmem, hraises⟩
    obtain ⟨i, hi, rfl⟩ := Vector.mem_iff_getElem.1 (Vector.mem_toList_iff.1 hmem)
    cases he : p.alloc.waiters[i] with
    | none => simp only [he, Bool.false_eq_true] at hraises
    | some e =>
      simp only [he, raising_iff] at hraises
      exact ⟨⟨i, hi⟩, e, he, hraises⟩
  · rintro ⟨n, e, he, hraises⟩
    exact ⟨some e, Vector.mem_toList_iff.2 (he ▸ Vector.getElem_mem n.isLt), (raising_iff e).2 hraises⟩

section Holdoff

variable {p : Part}

theorem Part.holdoffExpired_alwaysOn (h : p.gen.policy = .alwaysOn) :
    p.holdoffExpired =
      p.enterLink .starting (some (if p.link.rememberedWake = true then .remote else .localSide)) .holdoffEnd := by
  simp only [Part.holdoffExpired, h]

theorem Part.holdoffExpired_onDemand (h : p.gen.policy = .onDemand) :
    p.holdoffExpired =
      if p.link.rememberedWake = true then p.enterLink .starting (some .remote) .holdoffEnd
      else if p.link.demandFlag = true ∨ p.demandOutstanding = true
        then p.enterLink .starting (some .localSide) .holdoffEnd
      else p.enterLink .off none .holdoffEnd := by
  simp only [Part.holdoffExpired, h]

end Holdoff

section Wake

variable {p : Part}

/-- R117: no wake edge acts in HALTED or under policy OFF. -/
theorem Part.wake_unheeded (h : p.cmd.mode = .halted ∨ p.gen.policy = .off) : p.wake = p.dropWake := by
  refine if_neg ?_
  rintro ⟨hrunning, hpolicy⟩
  rcases h with hmode | hoff
  · exact nomatch (Part.isRunning_halted (p := p.dropWake) hmode).symm.trans hrunning
  · exact hpolicy hoff

variable (hmode : p.cmd.mode = .running)
include hmode

theorem Part.wake_heeded (hpolicy : p.gen.policy ≠ .off) :
    p.wake = match p.link.state with
      | .off => if p.gen.policy = .onDemand then p.dropWake.enterLink .starting (some .remote) .wake else p.dropWake
      | .holdoff => { p.dropWake with link := { p.dropWake.link with rememberedWake := true } }
      | .starting | .up => if p.gen.policy = .onDemand
          then { p.dropWake with link := { p.dropWake.link with origin := some .remote } }.judgeSilence
          else p.dropWake :=
  if_pos ⟨Part.isRunning_running (p := p.dropWake) hmode, hpolicy⟩

theorem Part.wake_holdoff (hpolicy : p.gen.policy ≠ .off) (hst : p.link.state = .holdoff) :
    p.wake = { p.dropWake with link := { p.dropWake.link with rememberedWake := true } } := by
  rw [Part.wake_heeded hmode hpolicy, hst]

theorem Part.wake_alwaysOn (hpolicy : p.gen.policy = .alwaysOn) (hst : p.link.state ≠ .holdoff) : p.wake = p.dropWake := by
  rw [Part.wake_heeded hmode (by rw [hpolicy]; decide), hpolicy]
  cases h : p.link.state with
  | holdoff => exact absurd h hst
  | off | starting | up => rfl

theorem Part.wake_starts (hpolicy : p.gen.policy = .onDemand) (hst : p.link.state = .off) :
    p.wake = p.dropWake.enterLink .starting (some .remote) .wake := by
  rw [Part.wake_heeded hmode (by rw [hpolicy]; decide), hpolicy, hst]
  rfl

theorem Part.wake_remote (hpolicy : p.gen.policy = .onDemand) (hst : p.link.state = .starting ∨ p.link.state = .up) :
    p.wake = { p.dropWake with link := { p.dropWake.link with origin := some .remote } }.judgeSilence := by
  rw [Part.wake_heeded hmode (by rw [hpolicy]; decide), hpolicy]
  rcases hst with hst | hst <;> rw [hst] <;> rfl

end Wake

/-! ## The rows -/

section Rows

variable {s : State} (hlive : s.live)
include hlive

theorem exec_ready_due (hst : s.part.link.state = .starting) (hsample : s.part.link.rrdySample = some true) :
    exec .ready s = .next (s.after (s.part.enterLink .up none .ready)) := by
  have hdue : s.part.readyDue = true := by rw [Part.readyDue, hst, hsample]; rfl
  exact congrArg _ (State.eventIf_after (act := (·.linkReady)) hlive hdue)

theorem exec_readyLost_due (hst : s.part.link.state = .up) (hsample : s.part.link.rrdySample = some false) :
    exec .readyLost s = .next (s.after (s.part.enterLink .holdoff none .readyLost)) := by
  have hdue : s.part.readyLostDue = true := by rw [Part.readyLostDue, hst, hsample]; rfl
  exact congrArg _ (State.eventIf_after (act := (·.linkReadyLost)) hlive hdue)

theorem exec_startLimitExpiry_due (hst : s.part.link.state = .starting) (htimer : s.part.link.timer.due = true) :
    exec .startLimitExpiry s = .next (s.after (s.part.enterLink .holdoff none .startLimit)) := by
  have hdue : s.part.startLimitDue = true := by rw [Part.startLimitDue, hst, htimer]; rfl
  exact congrArg _ (State.eventIf_after (act := (·.startLimitExpired)) hlive hdue)

theorem exec_silenceExpiry_due (hst : s.part.link.state = .up) (htimer : s.part.link.silence.due = true) :
    exec .silenceExpiry s = .next (s.after (s.part.enterLink .off none .silence)) := by
  have hdue : s.part.silenceDue = true := by rw [Part.silenceDue, hst, htimer]; rfl
  exact congrArg _ (State.eventIf_after (act := (·.silenceExpired)) hlive hdue)

theorem exec_retryHoldoffExpiry_due {q : Part} (hst : s.part.link.state = .holdoff)
    (htimer : s.part.link.timer.due = true) (hq : s.part.holdoffExpired = q) :
    exec .retryHoldoffExpiry s = .next (s.after q) := by
  subst hq
  have hdue : s.part.holdoffDue = true := by rw [Part.holdoffDue, hst, htimer]; rfl
  exact congrArg _ (State.eventIf_after (act := (·.holdoffExpired)) hlive hdue)

theorem exec_wakeEdge_due {q : Part} (hedge : s.part.link.wakeEdge = true) (hq : s.part.wake = q) :
    exec .wakeEdge s = .next (s.after q) := by
  subst hq
  exact congrArg _ (State.eventIf_after (due := (·.wakeDue)) (act := (·.wake)) hlive hedge)

end Rows

/-! ## The statement -/

/-- Settles O53: each event by the link's state, the policy and the mode, and an entry field by field. -/
theorem linkFollowsItsEvents : Obligations.LinkFollowsItsEvents := by
  refine ⟨fun s hlive => ⟨exec_ready_due hlive, exec_readyLost_due hlive, exec_startLimitExpiry_due hlive,
    exec_silenceExpiry_due hlive, fun hst htimer => ?holdoff, fun hedge => ?wake, Part.demandOutstanding_iff _⟩,
    fun p st origin cause => ?entry⟩
  case holdoff =>
    have gives {q : Part} := exec_retryHoldoffExpiry_due (q := q) hlive hst htimer
    refine ⟨fun halways => gives (Part.holdoffExpired_alwaysOn halways), fun hdemand hwake => ?_,
      fun hdemand hwake hneeded => ?_, fun hdemand hwake hflag hnone => ?_⟩
    · exact gives ((Part.holdoffExpired_onDemand hdemand).trans (if_pos hwake))
    · exact gives ((Part.holdoffExpired_onDemand hdemand).trans
        ((if_neg (Bool.eq_false_iff.mp hwake)).trans (if_pos hneeded)))
    · have hunneeded : ¬ (s.part.link.demandFlag = true ∨ s.part.demandOutstanding = true) :=
        not_or.mpr ⟨Bool.eq_false_iff.mp hflag, Bool.eq_false_iff.mp hnone⟩
      exact gives ((Part.holdoffExpired_onDemand hdemand).trans
        ((if_neg (Bool.eq_false_iff.mp hwake)).trans (if_neg hunneeded)))
  case wake =>
    have gives {q : Part} := exec_wakeEdge_due (q := q) hlive hedge
    exact ⟨fun hdeaf => gives (Part.wake_unheeded hdeaf),
      fun hmode hpolicy hst => gives (Part.wake_holdoff hmode hpolicy hst),
      fun hmode hpolicy hst => gives (Part.wake_alwaysOn hmode hpolicy hst),
      fun hmode hpolicy hst => gives (Part.wake_starts hmode hpolicy hst),
      fun hmode hpolicy hst => gives (Part.wake_remote hmode hpolicy hst)⟩
  case entry =>
    intro q l
    have hlink : q.link = _ := p.enterLink_link st origin cause
    have hstate : q.link.state = st := by rw [hlink]; rfl
    have hreport := p.enterLink_report st origin cause
    have frame {α : Type} (field : Part → α) : field q = _ := congrArg field (p.enterLink_frame st origin cause)
    refine ⟨hstate, ?origin, ?flags, ?timer, fun hnew => ?stopped, fun hup => ?silence, ?samples, ?enable,
      fun henabled hroom => ?record, hreport, frame Part.cmd, frame Part.outbox, p.enterLink_chan st origin cause,
      Part.enterLink_alloc origin cause, Part.enterLink_waiters origin cause, frame Part.sup, frame Part.lines,
      frame Part.directory, frame Part.codes, frame Part.supply, frame Part.ring, frame Part.tone, frame Part.copies,
      frame Part.gen, frame Part.clock⟩
    case origin => rw [hlink]; exact l.enter_origin st origin
    case flags => rw [hlink]; exact l.enter_flags st origin
    case timer | samples => rw [hlink]; rfl
    case stopped =>
      rw [hlink, Part.silenceHolds_linkDown (by rw [hstate]; exact hnew)]
      exact l.silenceJudged_ends
    case silence => exact congrArg Link.silence hlink
    case enable => rw [Part.linkEnable_iff, hstate]
    case record => exact (congrArg Report.queue hreport).trans (Part.hand_queue_room _ _ _ henabled hroom)

end Sys2Proof.Machine
end

section
/-! The commit of the general configuration: its checks, what a changed policy makes of the link and a risen ring budget of the
ringing, and then the statement about it (R126, R131, R134, R136, R169, Tables 10-4 and 10-10). -/

namespace Sys2Proof.Machine

/-! ## The words of a general configuration (R169, Table 10-10) -/

theorem LinkPolicy.ofCode_defined {code : Nat} (h : code ≤ 2) :
    LinkPolicy.ofCode code = some (if code = 0 then .off else if code = 1 then .onDemand else .alwaysOn) := by
  interval_cases code <;> rfl

theorem LinkPolicy.ofCode_undefined {code : Nat} (h : ¬ code ≤ 2) : LinkPolicy.ofCode code = none := by
  obtain ⟨n, rfl⟩ : ∃ n, code = n + 3 := ⟨code - 3, by omega⟩
  rfl

theorem SwitchingMode.ofCode_defined {code : Nat} (h : code ≤ 2) :
    SwitchingMode.ofCode code = some (if code = 0 then .never else if code = 1 then .isolated else .always) := by
  interval_cases code <;> rfl

theorem SwitchingMode.ofCode_undefined {code : Nat} (h : ¬ code ≤ 2) : SwitchingMode.ofCode code = none := by
  obtain ⟨n, rfl⟩ : ∃ n, code = n + 3 := ⟨code - 3, by omega⟩
  rfl

section Words

variable {word : Nat → Word} {commit : Word}

theorem GenConfig.ofWords_noPolicy (h : LinkPolicy.ofCode (field commit 0 2) = none) :
    GenConfig.ofWords word commit = .error .range := by
  simp only [GenConfig.ofWords, h]

theorem GenConfig.ofWords_noSwitching (h : SwitchingMode.ofCode (field commit 2 2) = none) :
    GenConfig.ofWords word commit = .error .range := by
  unfold GenConfig.ofWords
  rw [h]
  cases LinkPolicy.ofCode (field commit 0 2) <;> rfl

/-- With both codes defined the fields are judged: RANGE before ORDER. -/
theorem GenConfig.ofWords_judged {policy : LinkPolicy} {switching : SwitchingMode} {g : GenConfig}
    (hpolicy : LinkPolicy.ofCode (field commit 0 2) = some policy)
    (hswitching : SwitchingMode.ofCode (field commit 2 2) = some switching)
    (hg : GenConfig.ofFields word commit policy switching = g) :
    GenConfig.ofWords word commit =
      if g.inRange = true then (if g.breakMax < g.onHookMin then .ok g else .error .order) else .error .range := by
  simp only [GenConfig.ofWords, hpolicy, hswitching, hg]

end Words

section Commit

variable {p : Part} {w : Word}

theorem Part.commitGeneral_error {reason : RefusalReason}
    (h : GenConfig.ofWords (fun i => p.copy (generalOffset i)) w = .error reason) :
    p.commitGeneral w = p.tableRefused .general reason := by
  simp only [Part.commitGeneral, h]

theorem Part.commitGeneral_installs {g : GenConfig}
    (h : GenConfig.ofWords (fun i => p.copy (generalOffset i)) w = .ok g) :
    p.commitGeneral w = p.installGeneral g := by
  simp only [Part.commitGeneral, h]

end Commit

/-! ## A change of policy (R117, R126) -/

section PolicyChange

variable {p : Part} {old : LinkPolicy}

theorem Part.policyChanged_not (h : p.cmd.mode = .halted ∨ p.gen.policy = old) : p.policyChanged old = p := by
  refine if_neg ?_
  rintro ⟨hrunning, hchanged⟩
  rcases h with hmode | hsame
  · exact nomatch (Part.isRunning_halted hmode).symm.trans hrunning
  · exact hchanged hsame

variable (hmode : p.cmd.mode = .running) (hchanged : p.gen.policy ≠ old)
include hmode hchanged

theorem Part.policyChanged_off_off (hpolicy : p.gen.policy = .off) (hst : p.link.state = .off) :
    p.policyChanged old = p.dropWake := by
  rw [Part.policyChanged, if_pos ⟨Part.isRunning_running hmode, hchanged⟩, hpolicy, hst]

theorem Part.policyChanged_off (hpolicy : p.gen.policy = .off) (hst : p.link.state ≠ .off) :
    p.policyChanged old = p.dropWake.enterLink .off none .policy := by
  rw [Part.policyChanged, if_pos ⟨Part.isRunning_running hmode, hchanged⟩, hpolicy]
  cases h : p.link.state with
  | off => exact absurd h hst
  | starting | up | holdoff => rfl

theorem Part.policyChanged_onDemand_off (hpolicy : p.gen.policy = .onDemand) (hst : p.link.state = .off) :
    p.policyChanged old =
      if p.demandOutstanding = true then p.enterLink .starting (some .localSide) .policy else p := by
  rw [Part.policyChanged, if_pos ⟨Part.isRunning_running hmode, hchanged⟩, hpolicy, hst]

theorem Part.policyChanged_alwaysOn_off (hpolicy : p.gen.policy = .alwaysOn) (hst : p.link.state = .off) :
    p.policyChanged old = p.enterLink .starting (some .localSide) .policy := by
  rw [Part.policyChanged, if_pos ⟨Part.isRunning_running hmode, hchanged⟩, hpolicy, hst]

theorem Part.policyChanged_up (hpolicy : p.gen.policy ≠ .off) (hst : p.link.state = .up) :
    p.policyChanged old = p.judgeSilence := by
  rw [Part.policyChanged, if_pos ⟨Part.isRunning_running hmode, hchanged⟩, hst]
  cases h : p.gen.policy with
  | off => exact absurd h hpolicy
  | onDemand | alwaysOn => rfl

theorem Part.policyChanged_waiting (hpolicy : p.gen.policy ≠ .off)
    (hst : p.link.state = .starting ∨ p.link.state = .holdoff) : p.policyChanged old = p := by
  rw [Part.policyChanged, if_pos ⟨Part.isRunning_running hmode, hchanged⟩]
  cases h : p.gen.policy with
  | off => exact absurd h hpolicy
  | onDemand | alwaysOn => rcases hst with hst | hst <;> rw [hst]

end PolicyChange

theorem exec_generalConfigCommit {s : State} {w : Word} {q : Part} (h : s.takesWrite 0x6FF w)
    (hq : s.part.commitGeneral w = q) :
    exec (.generalConfigCommit w) s = .next ((s.served 0x6FF w).after q) := by
  subst hq
  exact congrArg _ (State.snooped_after (act := (·.commitGeneral w)) h)

/-! ## The statement -/

/-- Settles O47: the checks in their order and the install, and a changed policy by the policy and the link's state. -/
theorem generalConfigCommitActsOnPolicyAndBudget : Obligations.GeneralConfigCommitActsOnPolicyAndBudget := by
  refine ⟨fun s w htakes => ?commit, fun p old => ⟨Part.policyChanged_not, fun hmode hchanged => ?policy⟩⟩
  case policy =>
    exact ⟨Part.policyChanged_off_off hmode hchanged, Part.policyChanged_off hmode hchanged,
      Part.policyChanged_onDemand_off hmode hchanged, Part.policyChanged_alwaysOn_off hmode hchanged,
      Part.policyChanged_up hmode hchanged, Part.policyChanged_waiting hmode hchanged⟩
  case commit =>
    intro word policyCode switchingCode policy switching g range gives refused q
    have refuses {reason : RefusalReason} (h : GenConfig.ofWords word w = .error reason) : refused reason.item :=
      exec_generalConfigCommit htakes (Part.commitGeneral_error h)
    have judged (hpolicy : policyCode ≤ 2) (hswitching : switchingCode ≤ 2) : GenConfig.ofWords word w =
        if g.inRange = true then (if g.breakMax < g.onHookMin then .ok g else .error .order) else .error .range :=
      GenConfig.ofWords_judged (LinkPolicy.ofCode_defined hpolicy) (SwitchingMode.ofCode_defined hswitching) rfl
    refine ⟨fun hrange => refuses (reason := .range) ?range, fun hrange horder => refuses (reason := .order) ?order,
      fun hrange horder => exec_generalConfigCommit htakes (Part.commitGeneral_installs ?installs)⟩
    case range =>
      by_cases hpolicy : policyCode ≤ 2
      · by_cases hswitching : switchingCode ≤ 2
        · exact (judged hpolicy hswitching).trans (if_neg fun hin => hrange ⟨hpolicy, hswitching, hin⟩)
        · exact GenConfig.ofWords_noSwitching (SwitchingMode.ofCode_undefined hswitching)
      · exact GenConfig.ofWords_noPolicy (LinkPolicy.ofCode_undefined hpolicy)
    case order =>
      obtain ⟨hpolicy, hswitching, hin⟩ := hrange
      exact (judged hpolicy hswitching).trans ((if_pos hin).trans (if_neg (Nat.not_lt.mpr horder)))
    case installs =>
      obtain ⟨hpolicy, hswitching, hin⟩ := hrange
      exact (judged hpolicy hswitching).trans ((if_pos hin).trans (if_pos horder))

end Sys2Proof.Machine
end

section
/-! The frame strobe: the events that earlier strobes left behind, and what the strobe makes of the link, the supply monitor, the
cadence positions and the tone positions, and then the statement about them (R116, R117, R121, R129, R138, R146, R151, R161). -/

namespace Sys2Proof.Machine

/-! ## Events left behind (log 2) -/

theorem State.run_next {s t : State} {c : Instr} (h : exec c s = .next t) : s.run c = t := by
  simp only [State.run, h]

/-- The row of a strobe's event takes the event when it is due. -/
theorem StrobeEvent.exec_row (e : StrobeEvent) (s : State) : exec e.row s = .next (s.eventIf e.due e.act) := by
  cases e <;> rfl

theorem foldl_eventIf_notDue {events : List StrobeEvent} {s : State} (h : ∀ e ∈ events, e.due s.part = false) :
    events.foldl (fun u e => u.eventIf e.due e.act) s = s := by
  induction events with
  | nil => rfl
  | cons e rest ih =>
    rw [List.foldl_cons, State.eventIf_notDue (h e List.mem_cons_self)]
    exact ih fun e he => h e (List.mem_cons_of_mem _ he)

/-- The events left behind are taken one after the other, each by its row. -/
theorem State.settle_eq_run (s : State) : s.settle = strobeEvents.foldl (fun u e => u.run e.row) s := by
  have hrun : (fun (u : State) (e : StrobeEvent) => u.run e.row) = fun u e => u.eventIf e.due e.act :=
    funext fun u => funext fun e => State.run_next (e.exec_row u)
  rw [hrun, State.settle]
  split
  case isTrue => rfl
  case isFalse hnone =>
    refine (foldl_eventIf_notDue fun e he => ?_).symm
    exact Bool.eq_false_iff.mpr fun hdue => hnone (List.any_eq_true.mpr ⟨e, he, hdue⟩)

theorem exec_frameStrobe_ready {s : State} (rrdy rwake supw : Bool) (h : s.readyForStrobe) :
    exec (.frameStrobe rrdy rwake supw) s = .next { s with part := s.part.strobe rrdy rwake supw } := by
  rw [exec_frameStrobe_live rrdy rwake supw h.1, State.settle_ready h]

/-! ## The link's samples (R116, R117) -/

/-- R116: a sample of RRDY stands where it is an event. -/
theorem LinkState.sample_eq (st : LinkState) (rrdy : Bool) :
    st.sample rrdy = if st = .starting ∧ rrdy = true then some true
      else if st = .up ∧ rrdy = false then some false else none := by
  cases st <;> cases rrdy <;> rfl

/-- R117: a rising edge of RWAKE stands in RUNNING under a policy other than OFF. -/
theorem Part.strobe_wakeEdge (p : Part) (rrdy rwake supw : Bool) :
    (p.strobe rrdy rwake supw).link.wakeEdge =
      decide (rwake = true ∧ p.link.lastWake = false ∧ p.cmd.mode = .running ∧ p.gen.policy ≠ .off) := by
  rw [Bool.eq_iff_iff, decide_eq_true_iff]
  simp only [Part.strobe, Link.tick, Part.isRunning, Bool.and_eq_true, Bool.not_eq_true', beq_iff_eq, bne_iff_ne, and_assoc]

theorem Part.strobe_link (p : Part) (rrdy rwake supw : Bool) :
    (p.strobe rrdy rwake supw).link = { p.link with
      timer := p.link.timer.tick (p.link.limit p.gen)
      silence := p.link.silence.tick (seconds p.gen.silenceLimit)
      lastWake := rwake
      rrdySample := if p.link.state = .starting ∧ rrdy = true then some true
        else if p.link.state = .up ∧ rrdy = false then some false else none
      wakeEdge := decide (rwake = true ∧ p.link.lastWake = false ∧ p.cmd.mode = .running ∧ p.gen.policy ≠ .off) } := by
  rw [← Part.strobe_wakeEdge p rrdy rwake supw, ← LinkState.sample_eq]
  rfl

/-! ## Cadence positions (R138) -/

section Cadence

variable {c : CadencePosition} {steps : Vector CadenceStep 4}

theorem cadenceFrames_listed {step : Fin 4} (h : step.val < cadenceLength steps) :
    cadenceFrames steps step = 8 * steps[step].duration := if_pos h

theorem cadenceFrames_unlisted {step : Fin 4} (h : cadenceLength steps ≤ step.val) : cadenceFrames steps step = 0 :=
  if_neg (Nat.not_lt.mpr h)

theorem CadencePosition.tick_runs (hlisted : c.step.val < cadenceLength steps)
    (hruns : c.count + 1 < 8 * steps[c.step].duration) : c.tick steps = { c with count := c.count + 1 } := by
  rw [← cadenceFrames_listed hlisted] at hruns
  exact if_neg (Nat.not_le.mpr hruns)

/-- R137, R138: a step at or beyond the length of the list lasts no frame. -/
theorem cadenceFrames_reached (h : cadenceLength steps ≤ c.step.val ∨ 8 * steps[c.step].duration ≤ c.count + 1) :
    cadenceFrames steps c.step ≤ c.count + 1 := by
  by_cases hlisted : c.step.val < cadenceLength steps
  · rw [cadenceFrames_listed hlisted]
    exact h.resolve_left (Nat.not_le.mpr hlisted)
  · rw [cadenceFrames_unlisted (Nat.not_lt.mp hlisted)]
    exact Nat.zero_le _

/-- R138: a step that ends names the one that comes next, and the last one of the list names step 0. -/
theorem CadencePosition.tick_ends (h : cadenceLength steps ≤ c.step.val ∨ 8 * steps[c.step].duration ≤ c.count + 1) :
    ∃ next : Fin 4, c.tick steps = { c with count := c.count + 1, next := some next } ∧
      next.val = if c.step.val + 1 = 4 ∨ cadenceLength steps ≤ c.step.val + 1 then 0 else c.step.val + 1 := by
  refine ⟨_, if_pos (cadenceFrames_reached h), ?_⟩
  by_cases hlast : c.step.val + 1 < 4
  · by_cases hlisted : c.step.val + 1 < cadenceLength steps
    · rw [dif_pos hlast, if_pos hlisted, if_neg (by omega)]
    · rw [dif_pos hlast, if_neg hlisted, if_pos (by omega)]
      rfl
  · rw [dif_neg hlast, if_pos (by omega)]
    rfl

theorem Part.strobe_slot (p : Part) (rrdy rwake supw : Bool) (n : Line) :
    (p.strobe rrdy rwake supw).ring.slots[n] = (p.ring.slots[n]).map (·.tick p.tone.cadence) := by
  simp only [Part.strobe, Fin.getElem_fin, Vector.getElem_ofFn]

end Cadence

/-! ## Tone positions (R146, R151) -/

section Tone

variable {x : TonePosition} {descriptors : Vector (Vector ToneStep 4) 8}

theorem TonePosition.tick_silent (h : x.tone = none) : x.tick descriptors = x := by
  simp only [TonePosition.tick, h]

/-- R146: the phase after a frame of the position's segment. -/
def TonePosition.phaseAfter (x : TonePosition) (step : ToneStep) : Nat :=
  if step.length = 0 then 0 else (x.phase + 1) % step.length

variable {tone : ToneIx} (htone : x.tone = some tone)
include htone

theorem TonePosition.tick_held (h : x.left = .held) :
    x.tick descriptors = { x with phase := x.phaseAfter descriptors[tone][x.step] } := by
  simp only [TonePosition.tick, htone, h, TonePosition.phaseAfter]

theorem TonePosition.tick_counts {left : Nat} (h : x.left = .count (left + 2)) :
    x.tick descriptors =
      { x with left := .count (left + 1), phase := x.phaseAfter descriptors[tone][x.step] } := by
  simp only [TonePosition.tick, htone, h, TonePosition.phaseAfter]

/-- R146, R151: a count that reaches 0 names the next step with the frames left that its duration loads. -/
theorem TonePosition.tick_ends (h : x.left = .count 1) {next : Fin 4} (hnext : next.val = (x.step.val + 1) % 4) :
    x.tick descriptors =
      { x with left := .count 0, next := some (next, framesOf descriptors[tone][next].duration) } := by
  have hstep : x.step + 1 = next := Fin.ext (by rw [hnext, Fin.val_add]; rfl)
  simp only [TonePosition.tick, htone, h, hstep]

end Tone

theorem Part.strobe_position (p : Part) (rrdy rwake supw : Bool) (n : Line) :
    (p.strobe rrdy rwake supw).tone.positions[n] = p.tone.positions[n].tick p.tone.descriptors := by
  simp only [Part.strobe, Fin.getElem_fin, Vector.getElem_ofFn]

/-! ## The statement -/

/-- Settles O8: the events left behind row by row, and then each block's advance by the cases of its position. -/
theorem strobeSamplesAndAdvancesPositions : Obligations.StrobeSamplesAndAdvancesPositions := by
  refine ⟨fun s rrdy rwake supw hlive => ?behind, fun s rrdy rwake supw hready =>
    ⟨_, exec_frameStrobe_ready rrdy rwake supw hready, Part.strobe_link _ rrdy rwake supw, rfl, fun n hfree => ?free,
      fun n c hholds => ?holder, fun n hsilent => ?silent, fun n tone htone => ?running⟩⟩
  case behind =>
    rw [← State.settle_eq_run]
    exact exec_frameStrobe_live rrdy rwake supw hlive
  case free => exact (Part.strobe_slot ..).trans (congrArg _ hfree)
  case holder =>
    have ticks := (s.part.strobe_slot rrdy rwake supw n).trans (congrArg _ hholds)
    refine ⟨fun hlisted hruns => ticks.trans (congrArg some (CadencePosition.tick_runs hlisted hruns)), fun hends => ?_⟩
    obtain ⟨next, htick, hnext⟩ := CadencePosition.tick_ends hends
    exact ⟨next, ticks.trans (congrArg some htick), hnext⟩
  case silent => exact (Part.strobe_position ..).trans (TonePosition.tick_silent hsilent)
  case running =>
    exact ⟨fun hheld => (Part.strobe_position ..).trans (TonePosition.tick_held htone hheld),
      fun next hlast hnext => (Part.strobe_position ..).trans (TonePosition.tick_ends htone hlast hnext),
      fun left hcounts => (Part.strobe_position ..).trans (TonePosition.tick_counts htone hcounts)⟩

end Sys2Proof.Machine
end

section
/-! The ledger of a part: the fields that the bounds and the canonical form speak of, how an event may change them, and that
call processing changes them only by handing records (R129, R162, R166, R179). -/

namespace Sys2Proof.Machine

/-! ## The ledger and its changes -/

/-- The fields of a part that `State.canonical` and `State.bounded` speak of: the pending copies, the supply monitor, the
clock, and of the report writer the queue and the lost count. -/
structure Ledger where
  copies : WordStore
  supply : Supply
  clock : Clock
  queue : List Record
  lost : Nat

/-- The ledger of a part. -/
def Part.ledger (p : Part) : Ledger := ⟨p.copies, p.supply, p.clock, p.report.queue, p.report.lost⟩

/-- R179: a record that is generated joins the queue, or is dropped and counted. -/
def Ledger.receive (l : Ledger) (r : Record) : Ledger :=
  if l.queue.length < Config.reportQueueLimit then { l with queue := l.queue ++ [r] }
  else { l with lost := min 65535 (l.lost + 1) }

/-- One change that an event may make of a ledger. -/
inductive Ledger.Step (l : Ledger) : Ledger → Prop where
  /-- A record is handed (R179). -/
  | record (r : Record) : Step l (l.receive r)
  /-- The queue head has been written (R183). -/
  | headWritten : Step l { l with queue := l.queue.tail }
  /-- A buffer is taken and the lost records are reported (R182). -/
  | lostReported : Step l { l with lost := 0 }
  /-- A pending copy is replaced (R166). -/
  | copyWritten (off : Nat) (w : Word) : Step l { l with copies := l.copies.write off w }
  /-- SUPW is accepted (R130). -/
  | supplyTaken (warning : Bool) : Step l { l with supply := ⟨warning, 0⟩ }

/-- The part's ledger has come from `l` by such changes. -/
def Part.EvolvedFrom (p : Part) (l : Ledger) : Prop := Relation.ReflTransGen Ledger.Step l p.ledger

theorem Part.evolvedFrom_self (p : Part) : p.EvolvedFrom p.ledger := .refl

/-- What every change keeps is kept. -/
theorem Part.EvolvedFrom.keeps {K : Ledger → Prop} (hstep : ∀ {l l'}, K l → Ledger.Step l l' → K l') {p : Part}
    {l : Ledger} (h : p.EvolvedFrom l) (hl : K l) : K p.ledger := by
  unfold Part.EvolvedFrom at h
  generalize p.ledger = l' at h
  induction h with
  | refl => exact hl
  | tail _ hlast ih => exact hstep ih hlast

namespace Part.EvolvedFrom

variable {p q : Part} {l : Ledger}

/-- One change more. -/
theorem step (h : p.EvolvedFrom l) (hstep : Ledger.Step p.ledger q.ledger) : q.EvolvedFrom l := .tail h hstep

@[simp] theorem ite {c : Prop} [Decidable c] (hp : p.EvolvedFrom l) (hq : q.EvolvedFrom l) :
    (if c then p else q).EvolvedFrom l := by
  split
  · exact hp
  · exact hq

/-- A fold of steps that each come from the ledger comes from it. -/
theorem foldl {α : Type} {f : Part → α → Part} (hf : ∀ (q : Part) a, q.EvolvedFrom l → (f q a).EvolvedFrom l)
    (as : List α) (h : p.EvolvedFrom l) : (as.foldl f p).EvolvedFrom l := by
  induction as generalizing p with
  | nil => exact h
  | cons a rest ih => exact ih (hf p a h)

section Ops

variable (h : p.EvolvedFrom l)
include h

/-! ## Updates that leave the ledger -/

@[simp] theorem setSupervisor (n : Line) (v : Supervisor) : (p.setSupervisor n v).EvolvedFrom l := h
@[simp] theorem setLine (n : Line) (x : LineRecord) : (p.setLine n x).EvolvedFrom l := h
@[simp] theorem setPartner (n : Line) (x : Option Partner) (r : Option Role) : (p.setPartner n x r).EvolvedFrom l := h
@[simp] theorem setChan (k : Chan) (c : ChanRecord) : (p.setChan k c).EvolvedFrom l := h
@[simp] theorem setChanPartner (k : Chan) (x : Option Line) : (p.setChanPartner k x).EvolvedFrom l := h
@[simp] theorem setLinkChanges (k : Chan) (x : List LinkChange) : (p.setLinkChanges k x).EvolvedFrom l := h
@[simp] theorem setWaiter (n : Line) (w : Option WaitEntry) : (p.setWaiter n w).EvolvedFrom l := h
@[simp] theorem setTonePosition (n : Line) (v : TonePosition) : (p.setTonePosition n v).EvolvedFrom l := h
@[simp] theorem setLong (c : LongCommand) : (p.setLong c).EvolvedFrom l := h
@[simp] theorem withAlloc (a : Allocator) : ({ p with alloc := a } : Part).EvolvedFrom l := h
@[simp] theorem withLink (x : Link) : ({ p with link := x } : Part).EvolvedFrom l := h
@[simp] theorem withRing (r : Ring) : ({ p with ring := r } : Part).EvolvedFrom l := h
@[simp] theorem withCmd (c : CommandUnit) : ({ p with cmd := c } : Part).EvolvedFrom l := h
@[simp] theorem request (who : Requester) (off : Nat) (d : Option Word) : (p.request who off d).EvolvedFrom l := h

/-! ## Records and echoes -/

theorem enqueueRecord (r : Record) : (p.enqueueRecord r).EvolvedFrom l := by
  have hledger : (p.enqueueRecord r).ledger = p.ledger.receive r := by
    unfold Part.enqueueRecord Ledger.receive
    exact (apply_ite Part.ledger ..).trans rfl
  exact h.step (hledger ▸ .record r)

@[simp] theorem hand (kind : RecordKind) (x : Subject) (a b : Word) (tag : SnapshotTag) :
    (p.hand kind x a b tag).EvolvedFrom l := (h.enqueueRecord _).ite h

@[simp] theorem tableRefused (t : TableRecord) (reason : RefusalReason) : (p.tableRefused t reason).EvolvedFrom l :=
  h.hand ..

@[simp] theorem requestEcho (w : Word) : (p.requestEcho w).EvolvedFrom l := (h.withCmd _).ite ((h.withCmd _).request ..)

@[simp] theorem commandEnded (code : BitVec 8) (sequence : BitVec 4) (aborted : Bool) :
    (p.commandEnded code sequence aborted).EvolvedFrom l := (h.hand ..).requestEcho _

/-! ## Entering a state -/

@[simp] theorem judgeTone (n : Line) : (p.judgeTone n).EvolvedFrom l := h.ite (h.setTonePosition ..)

@[simp] theorem handLineState (n : Line) : (p.handLineState n).EvolvedFrom l := h.hand ..

@[simp] theorem enterLine (n : Line) (st : LineState) (c : Option Cause) (howlerDone : Bool) :
    (p.enterLine n st c howlerDone).EvolvedFrom l := ((h.setLine ..).judgeTone n).handLineState n

@[simp] theorem judgeUnusable : p.judgeUnusable.EvolvedFrom l := h.withAlloc _

@[simp] theorem judgeSilence : p.judgeSilence.EvolvedFrom l := h.withLink _

@[simp] theorem restartSilence : p.restartSilence.EvolvedFrom l := (h.withLink _).ite h

@[simp] theorem handChanState (k : Chan) : (p.handChanState k).EvolvedFrom l := h.hand ..

@[simp] theorem enterChan (k : Chan) (st : ChanState) (r : Option RejectCode) : (p.enterChan k st r).EvolvedFrom l := by
  have hhanded := (h.setChan k (p.chans[k].enter st r)).handChanState k
  exact (hhanded.withAlloc _).judgeUnusable.judgeSilence.restartSilence.ite
    (hhanded.withAlloc _).judgeUnusable.judgeSilence

@[simp] theorem handLinkState (c : LinkCause) : (p.handLinkState c).EvolvedFrom l := h.hand ..

@[simp] theorem postLinkUp : p.postLinkUp.EvolvedFrom l := h

@[simp] theorem postLinkDown : p.postLinkDown.EvolvedFrom l := h

@[simp] theorem enterLink (st : LinkState) (o : Option Origin) (c : LinkCause) : (p.enterLink st o c).EvolvedFrom l := by
  have hhanded := (h.withLink (p.link.enter st o)).handLinkState c
  exact hhanded.postLinkUp.judgeSilence.ite (hhanded.postLinkDown.judgeUnusable.ite hhanded)

@[simp] theorem demand : p.demand.EvolvedFrom l := (h.enterLink ..).ite h

/-! ## Ring slots -/

@[simp] theorem grantSlots : p.grantSlots.EvolvedFrom l := h.withRing _

@[simp] theorem alertRequest (n : Line) : (p.alertRequest n).EvolvedFrom l := h.ite ((h.withRing _).ite (h.withRing _))

@[simp] theorem alertCancel (n : Line) : (p.alertCancel n).EvolvedFrom l := (h.withRing _).grantSlots.ite (h.withRing _)

/-! ## Calls -/

@[simp] theorem breakLine (n : Line) : (p.breakLine n).EvolvedFrom l := by
  unfold Part.breakLine
  split
  · exact h
  · exact (h.setPartner ..).setPartner ..
  · exact (h.setPartner ..).setChanPartner ..

@[simp] theorem breakChan (k : Chan) : (p.breakChan k).EvolvedFrom l := by
  unfold Part.breakChan
  split
  · exact h
  · exact (h.setPartner ..).setChanPartner ..

theorem hangUp (n : Line) (c : Cause) : (p.hangUp n c).EvolvedFrom l := (h.enterLine ..).ite (h.enterLine ..)

@[simp] theorem dropLine (n : Line) (c : Cause) : (p.dropLine n c).EvolvedFrom l := by
  cases hst : p.lines[n].state with
  | alerting =>
    rw [Part.dropLine_alerting c hst]
    exact (h.alertCancel n).enterLine ..
  | queued =>
    rw [Part.dropLine_queued c hst]
    exact (h.setWaiter n none).hangUp n c
  | dialing | trunkSetup | localCalling | talk =>
    rw [Part.dropLine_connected c (by rw [hst]; decide)]
    exact h.hangUp n c
  | outOfService | idle | cleardown | lockout =>
    rw [Part.dropLine_noCall c (by rw [hst]; decide)]
    exact h

@[simp] theorem dropPartner (k : Chan) (c : Cause) : (p.dropPartner k c).EvolvedFrom l := by
  unfold Part.dropPartner
  split
  · exact h
  · exact (h.breakChan k).dropLine ..

@[simp] theorem seize (k : Chan) (n : Line) (c : CallClass) : (p.seize k n c).EvolvedFrom l := (h.setChan ..).enterChan ..

@[simp] theorem grant (k : Chan) (n : Line) : (p.grant k n).EvolvedFrom l := by
  unfold Part.grant
  split
  · exact h
  · exact ((((h.withAlloc _).setWaiter ..).setPartner ..).enterLine ..).seize ..

@[simp] theorem channelFree (k : Chan) : (p.channelFree k).EvolvedFrom l := by
  unfold Part.channelFree
  split
  · exact h
  · split
    · exact h
    · exact h.grant ..

end Ops

/-! ## Preemption -/

section Preemption

variable {again : Part → Line → Part} (hagain : ∀ (q : Part) n, q.EvolvedFrom l → (again q n).EvolvedFrom l)
include hagain

theorem retry (k : Chan) (p : Part) (n : Line) (h : p.EvolvedFrom l) : (Part.retry again k p n).EvolvedFrom l := by
  unfold Part.retry
  split
  · exact (hagain _ _ (h.setWaiter ..)).ite h
  · exact h

theorem leaveWith (h : p.EvolvedFrom l) (k : Chan) : (p.leaveWith again k).EvolvedFrom l :=
  ((h.channelFree k).ite h).foldl (retry hagain k) _

theorem clearChanWith (h : p.EvolvedFrom l) (k : Chan) : (p.clearChanWith again k).EvolvedFrom l := by
  have hclearing := (h.breakChan k).enterChan k .clearing none
  exact ((leaveWith hagain (hclearing.enterChan ..) k).ite ((hclearing.enterChan ..).ite hclearing)).ite h

end Preemption

theorem attempt (rounds : Nat) (p : Part) (n : Line) (h : p.EvolvedFrom l) : (Part.attempt rounds p n).EvolvedFrom l := by
  induction rounds generalizing p n with
  | zero => exact h
  | succ rounds ih =>
    unfold Part.attempt
    split
    · exact h
    · split
      · exact h
      · simp only
        split
        · exact clearChanWith ih ((h.hand ..).setWaiter ..) _
        · exact (clearChanWith ih ((h.hand ..).setWaiter ..) _).dropLine ..

section Ops

variable (h : p.EvolvedFrom l)
include h

@[simp] theorem preempt (n : Line) : (p.preempt n).EvolvedFrom l := attempt _ p n h

@[simp] theorem leave (k : Chan) : (p.leave k).EvolvedFrom l := leaveWith (fun _ n hq => hq.preempt n) h k

@[simp] theorem clearChan (k : Chan) : (p.clearChan k).EvolvedFrom l := clearChanWith (fun _ n hq => hq.preempt n) h k

@[simp] theorem restChan (k : Chan) (st : ChanState) : (p.restChan k st).EvolvedFrom l := (h.enterChan ..).leave k

/-! ## Enqueue, teardown and abandonment -/

@[simp] theorem pursue (n : Line) (e : WaitEntry) : (p.pursue n e).EvolvedFrom l :=
  ((h.demand.ite h).preempt n).ite (h.demand.ite h)

@[simp] theorem enqueue (n : Line) (glare : Bool) : (p.enqueue n glare).EvolvedFrom l := by
  unfold Part.enqueue
  split
  · exact h
  · refine (h.dropLine ..).ite ?_
    simp only
    split
    · exact (h.setWaiter ..).grant ..
    · exact (h.setWaiter ..).pursue ..

@[simp] theorem glareReturn (n : Line) : (p.glareReturn n).EvolvedFrom l := (h.enterLine ..).enqueue n true

@[simp] theorem tearDown (n : Line) (c : Cause) : (p.tearDown n c).EvolvedFrom l := by
  unfold Part.tearDown
  split
  · exact ((h.breakLine n).dropLine ..).dropLine ..
  · exact (h.clearChan _).dropLine ..
  · exact h.dropLine ..

@[simp] theorem abandon (n : Line) : (p.abandon n).EvolvedFrom l := by
  unfold Part.abandon
  simp only
  split
  · exact h.setWaiter ..
  · exact ((h.breakLine n).alertCancel _).enterLine ..
  · exact ((h.alertCancel n).breakLine n).dropLine ..
  · exact (h.alertCancel n).clearChan _
  · exact h.clearChan _
  · exact (h.breakLine n).dropLine ..
  · exact h.clearChan _
  · exact h

/-! ## The line controller -/

@[simp] theorem routeLocal (n target : Line) : (p.routeLocal n target).EvolvedFrom l :=
  (h.dropLine ..).ite
    ((((((h.setPartner ..).setPartner ..).enterLine ..).enterLine ..).alertRequest target).ite (h.enterLine ..))

@[simp] theorem handCallRouted (n : Line) (r : Route) : (p.handCallRouted n r).EvolvedFrom l := h.hand ..

@[simp] theorem actOn (n : Line) (r : Option Route) (v : Verdict) : (p.actOn n r v).EvolvedFrom l := by
  have hrouted := h.setLine n (p.lines[n].routed r)
  unfold Part.actOn
  simp only
  split
  · exact hrouted.setLine ..
  · exact hrouted.enterLine ..
  · exact (hrouted.handCallRouted ..).routeLocal ..
  · exact ((hrouted.handCallRouted ..).enterLine ..).enqueue ..
  · exact hrouted

@[simp] theorem routeHotline (n : Line) (d : EntryIx) : (p.routeHotline n d).EvolvedFrom l := (h.setLine ..).actOn ..

@[simp] theorem originate (n : Line) : (p.originate n).EvolvedFrom l := by
  have hdialing := h.enterLine n .dialing none false
  unfold Part.originate
  refine (h.enterLine ..).ite ?_
  simp only
  split
  · exact (hdialing.routeHotline ..).ite hdialing
  · exact hdialing

@[simp] theorem markAnswered (n : Line) : (p.markAnswered n).EvolvedFrom l := h.setLine ..

@[simp] theorem answer (n : Line) : (p.answer n).EvolvedFrom l := by
  unfold Part.answer
  split
  · exact ((((h.markAnswered _).markAnswered n).enterLine ..).enterLine ..).alertCancel n
  · have hcancelled := ((h.markAnswered n).enterLine n .talk none false).alertCancel n
    exact (hcancelled.enterChan ..).ite hcancelled
  · exact h

@[simp] theorem takeHanded (n : Line) : (p.takeHanded n).EvolvedFrom l := h.setSupervisor ..

theorem takeEvent {act : Part → Part} (hact : ∀ q : Part, q.EvolvedFrom l → (act q).EvolvedFrom l) (n : Line) :
    (p.takeEvent n act).EvolvedFrom l := (hact _ (h.takeHanded n)).ite (h.takeHanded n)

@[simp] theorem offHook (n : Line) : (p.offHook n).EvolvedFrom l := by
  unfold Part.offHook
  split
  · exact h.originate n
  · exact h.answer n
  · exact h

@[simp] theorem onHook (n : Line) : (p.onHook n).EvolvedFrom l := by
  unfold Part.onHook
  split
  case h_4 => exact (h.abandon n).enterLine ..
  all_goals exact h

@[simp] theorem dialDigit (n : Line) (d : Digit) : (p.dialDigit n d).EvolvedFrom l :=
  (((h.setLine ..).judgeTone n).actOn ..).ite h

@[simp] theorem misdial (n : Line) : (p.misdial n).EvolvedFrom l := (h.enterLine ..).ite h

@[simp] theorem dialingExpired (n : Line) : (p.dialingExpired n).EvolvedFrom l := h.enterLine ..

@[simp] theorem hotlineExpired (n : Line) : (p.hotlineExpired n).EvolvedFrom l := by
  unfold Part.hotlineExpired
  split
  · exact h.routeHotline ..
  · exact h.enterLine ..

@[simp] theorem cleardownExpired (n : Line) : (p.cleardownExpired n).EvolvedFrom l := h.enterLine ..

@[simp] theorem howlerExpired (n : Line) : (p.howlerExpired n).EvolvedFrom l := (h.setLine ..).judgeTone n

@[simp] theorem startLine (n : Line) : (p.startLine n).EvolvedFrom l := ((h.withCmd _).originate n).ite (h.withCmd _)

@[simp] theorem clearLine (n : Line) : (p.clearLine n).EvolvedFrom l := by
  unfold Part.clearLine
  split
  · exact ((h.setLong _).tearDown ..).ite (h.setLong _)
  · exact h

@[simp] theorem clearIncoming (k : Chan) : (p.clearIncoming k).EvolvedFrom l := by
  unfold Part.clearIncoming
  split
  · exact (h.setLong _).clearChan k
  · exact h

@[simp] theorem entryExpired (n : Line) (limit : Nat) : (p.entryExpired n limit).EvolvedFrom l := by
  unfold Part.entryExpired
  split
  · exact ((h.setWaiter ..).hand ..).dropLine ..
  · exact h

end Ops

end Part.EvolvedFrom

end Sys2Proof.Machine
end

section
/-! The events of a block: each changes the ledger by the changes of `Ledger.Step`, and so does what ends every event. -/

namespace Sys2Proof.Machine

namespace Part.EvolvedFrom

variable {p : Part} {l : Ledger} (h : p.EvolvedFrom l)
include h

/-! ## The line supervisor -/

@[simp] theorem senseWrite (n : Line) (w : Word) : (p.senseWrite n w).EvolvedFrom l := h.setSupervisor ..

@[simp] theorem onHookMin (n : Line) : (p.onHookMin n).EvolvedFrom l := h.setSupervisor ..

@[simp] theorem interDigitPause (n : Line) : (p.interDigitPause n).EvolvedFrom l := h.setSupervisor ..

/-! ## The channel signalling unit -/

@[simp] theorem protocolError (k : Chan) (x : Code) : (p.protocolError k x).EvolvedFrom l := h.hand ..

@[simp] theorem handChanFault (k : Chan) (reason : Nat) : (p.handChanFault k reason).EvolvedFrom l := h.hand ..

@[simp] theorem seizedByFar (k : Chan) : (p.seizedByFar k).EvolvedFrom l :=
  ((h.setChan ..).enterChan ..).ite ((h.setChan ..).enterChan ..)

@[simp] theorem farIdle (k : Chan) (x : Code) : (p.farIdle k x).EvolvedFrom l := by
  unfold Part.farIdle
  split
  case h_1 | h_2 | h_3 => exact h.restChan ..
  case h_4 | h_5 | h_6 | h_7 | h_8 | h_9 => exact ((h.protocolError ..).dropPartner ..).restChan ..
  all_goals exact h

@[simp] theorem glare (k : Chan) : (p.glare k).EvolvedFrom l := by
  unfold Part.glare
  split
  · exact ((h.breakChan k).seizedByFar k).glareReturn _
  · exact h.seizedByFar k

@[simp] theorem farSeize (k : Chan) (x : Code) : (p.farSeize k x).EvolvedFrom l := by
  unfold Part.farSeize
  split
  · exact h.seizedByFar k
  · exact h.glare k
  · exact h
  · exact h.protocolError ..

@[simp] theorem farProceed (k : Chan) (x : Code) : (p.farProceed k x).EvolvedFrom l := by
  unfold Part.farProceed
  split
  · exact h.enterChan ..
  · exact h.protocolError ..

@[simp] theorem farDigit (k : Chan) (d : Dec) (x : Code) : (p.farDigit k d x).EvolvedFrom l := by
  unfold Part.farDigit
  split
  · exact (h.setChan ..).ite h
  · exact h.protocolError ..

@[simp] theorem incomingCall (k : Chan) (n : Line) : (p.incomingCall k n).EvolvedFrom l :=
  (((((h.setPartner ..).setChanPartner ..).enterLine ..).alertRequest n).enterChan ..).ite (h.enterChan ..)

@[simp] theorem farEnd (k : Chan) (x : Code) : (p.farEnd k x).EvolvedFrom l := by
  unfold Part.farEnd
  split
  · refine (h.enterChan ..).ite ?_
    split
    · exact h.incomingCall ..
    · exact h.enterChan ..
  · exact h.protocolError ..

@[simp] theorem farRinging (k : Chan) (x : Code) : (p.farRinging k x).EvolvedFrom l := by
  unfold Part.farRinging
  split
  · exact h
  · exact h.protocolError ..

@[simp] theorem answeredByFar (n : Line) : (p.answeredByFar n).EvolvedFrom l := ((h.setLine ..).enterLine ..).ite h

@[simp] theorem farAnswer (k : Chan) (x : Code) : (p.farAnswer k x).EvolvedFrom l := by
  unfold Part.farAnswer
  split
  · exact (h.enterChan ..).answeredByFar _
  · exact h.enterChan ..
  · exact h.protocolError ..

@[simp] theorem endCall (k : Chan) (st : ChanState) (c : Cause) : (p.endCall k st c).EvolvedFrom l := by
  unfold Part.endCall
  split
  · exact ((h.breakChan k).enterChan ..).dropLine ..
  · exact h.enterChan ..

@[simp] theorem farReject (k : Chan) (c : Cause) (x : Code) : (p.farReject k c x).EvolvedFrom l := by
  unfold Part.farReject
  split
  · exact h.endCall ..
  · exact h.endCall ..
  · exact h.protocolError ..

@[simp] theorem farClear (k : Chan) (x : Code) : (p.farClear k x).EvolvedFrom l := by
  unfold Part.farClear
  split
  case h_9 => exact h.protocolError ..
  all_goals exact h.endCall ..

@[simp] theorem farBlocked (k : Chan) : (p.farBlocked k).EvolvedFrom l := by
  unfold Part.farBlocked
  split
  case h_4 => exact (h.dropPartner ..).restChan ..
  all_goals exact h

@[simp] theorem accept (k : Chan) (x : Code) : (p.accept k x).EvolvedFrom l := by
  unfold Part.accept
  refine (h.setChan ..).ite ?_
  split
  · exact h.farIdle ..
  · exact h.farSeize ..
  · exact h.farProceed ..
  · exact h.farEnd ..
  · exact h.farRinging ..
  · exact h.farAnswer ..
  · exact h.farClear ..
  · exact h.farReject ..
  · exact h.farReject ..
  · exact h.farBlocked k
  · exact h.farDigit ..

@[simp] theorem signalIn (k : Chan) (w : Word) : (p.signalIn k w).EvolvedFrom l := by
  unfold Part.signalIn
  refine h.ite ?_
  split
  · exact h.setChan ..
  · exact ((h.setChan ..).accept ..).ite (h.setChan ..)

@[simp] theorem installCode (x : Code) (w : Word) : (p.installCode x w).EvolvedFrom l :=
  (h.tableRefused ..).ite (q := { p with codes := _ }) h

@[simp] theorem seizeLimitExpired (k : Chan) : (p.seizeLimitExpired k).EvolvedFrom l := by
  have hhanded := h.handChanFault k 0
  unfold Part.seizeLimitExpired
  simp only
  split
  · exact ((hhanded.breakChan k).restChan ..).glareReturn _
  · exact hhanded.restChan ..

@[simp] theorem digitHoldExpired (k : Chan) : (p.digitHoldExpired k).EvolvedFrom l := h.setChan ..

@[simp] theorem digitGapExpired (k : Chan) : (p.digitGapExpired k).EvolvedFrom l := (h.setChan ..).ite (h.enterChan ..)

@[simp] theorem incomingLimitExpired (k : Chan) : (p.incomingLimitExpired k).EvolvedFrom l := h.enterChan ..

@[simp] theorem releaseGuardExpired (k : Chan) : (p.releaseGuardExpired k).EvolvedFrom l :=
  (h.handChanFault k 1).restChan ..

@[simp] theorem recoveryExpired (k : Chan) : (p.recoveryExpired k).EvolvedFrom l := h.restChan ..

@[simp] theorem stallExpired (k : Chan) : (p.stallExpired k).EvolvedFrom l :=
  ((h.hand ..).setChan ..).ite ((((h.hand ..).setChan ..).dropPartner ..).restChan ..)

@[simp] theorem channelUp (k : Chan) : (p.channelUp k).EvolvedFrom l :=
  ((h.setLinkChanges ..).restChan ..).ite (h.setLinkChanges ..)

@[simp] theorem channelDown (k : Chan) : (p.channelDown k).EvolvedFrom l := by
  have htaken := h.setLinkChanges k p.chans[k].linkChanges.tail
  unfold Part.channelDown
  simp only
  split
  · exact htaken
  · exact ((htaken.breakChan k).restChan ..).glareReturn _
  · exact ((htaken.breakChan k).restChan ..).dropLine ..
  · exact htaken.restChan ..

@[simp] theorem resetChan (k : Chan) : (p.resetChan k).EvolvedFrom l := by
  have hdropped := fun c => (h.dropPartner k .congestion).setChan k c
  unfold Part.resetChan
  simp only
  split
  · exact (hdropped _).leave k
  · exact (hdropped _).restChan ..
  · exact hdropped _
  · exact (hdropped _).restChan ..

@[simp] theorem haltChan (k : Chan) : (p.haltChan k).EvolvedFrom l :=
  (h.setLinkChanges k []).ite ((h.setLinkChanges k []).enterChan ..)

/-! ## The link controller -/

@[simp] theorem linkReady : p.linkReady.EvolvedFrom l := h.enterLink ..

@[simp] theorem linkReadyLost : p.linkReadyLost.EvolvedFrom l := h.enterLink ..

@[simp] theorem dropWake : p.dropWake.EvolvedFrom l := h.withLink _

@[simp] theorem wake : p.wake.EvolvedFrom l := by
  have hdropped := h.dropWake
  unfold Part.wake
  refine ite ?_ hdropped
  split
  · exact (hdropped.enterLink ..).ite hdropped
  · exact hdropped.withLink _
  · exact (hdropped.withLink _).judgeSilence.ite hdropped
  · exact (hdropped.withLink _).judgeSilence.ite hdropped

@[simp] theorem startLimitExpired : p.startLimitExpired.EvolvedFrom l := h.enterLink ..

@[simp] theorem holdoffExpired : p.holdoffExpired.EvolvedFrom l := by
  unfold Part.holdoffExpired
  simp only
  split
  · exact h.enterLink ..
  · exact (h.enterLink ..).ite ((h.enterLink ..).ite (h.enterLink ..))
  · exact h.enterLink ..

@[simp] theorem silenceExpired : p.silenceExpired.EvolvedFrom l := h.enterLink ..

@[simp] theorem linkUp : p.linkUp.EvolvedFrom l := by
  unfold Part.linkUp
  refine ite ?_ h
  split
  · exact h.enterLink ..
  · exact h
  · exact h.restartSilence
  · exact h.withLink _

@[simp] theorem linkDown : p.linkDown.EvolvedFrom l := by
  unfold Part.linkDown
  split
  · exact h.enterLink ..
  · exact h.enterLink ..
  · exact h.withLink _
  · exact h

@[simp] theorem linkAtStart : p.linkAtStart.EvolvedFrom l := (h.enterLink ..).ite h

@[simp] theorem linkAtHalt : p.linkAtHalt.EvolvedFrom l :=
  (h.withLink _).dropWake.ite ((h.withLink _).dropWake.handLinkState _)

@[simp] theorem policyChanged (old : LinkPolicy) : (p.policyChanged old).EvolvedFrom l := by
  unfold Part.policyChanged
  refine ite ?_ h
  split
  · exact h.dropWake
  · exact h.dropWake.enterLink ..
  · exact (h.enterLink ..).ite h
  · exact h.enterLink ..
  · exact h.judgeSilence
  · exact h

/-! ## Ringing, the supply and the tones -/

@[simp] theorem supplyToAllocator : p.supplyToAllocator.EvolvedFrom l := h.demand.ite h

/-- R130: an acceptance turns the warning and sets the hold count to 0. -/
@[simp] theorem acceptSupply : p.acceptSupply.EvolvedFrom l := by
  have htaken : ({ p with supply := ⟨!p.supply.warning, 0⟩ } : Part).EvolvedFrom l := h.step (.supplyTaken _)
  exact ((htaken.hand ..).grantSlots.ite (htaken.hand ..)).supplyToAllocator

@[simp] theorem endAlerting (n : Line) : (p.endAlerting n).EvolvedFrom l := by
  unfold Part.endAlerting
  split
  · exact ((h.breakLine n).enterLine ..).dropLine ..
  · exact ((h.breakLine n).enterLine ..).clearChan _
  · exact h.enterLine ..
  · exact h

@[simp] theorem alertExpired (n : Line) : (p.alertExpired n).EvolvedFrom l := (h.alertCancel n).endAlerting n

@[simp] theorem endCadenceStep (n : Line) : (p.endCadenceStep n).EvolvedFrom l := h.withRing _

@[simp] theorem endToneStep (n : Line) : (p.endToneStep n).EvolvedFrom l := h.setTonePosition ..

/-! ## The table loader -/

/-- R166: a pending copy is replaced. -/
@[simp] theorem writePending (off : Nat) (w : Word) : (p.writePending off w).EvolvedFrom l := h.step (.copyWritten off w)

@[simp] theorem installProfile (n : Line) (profile : Profile) : (p.installProfile n profile).EvolvedFrom l := by
  have hset := h.setLine n (p.lines[n].withProfile profile)
  unfold Part.installProfile
  simp only
  split
  · exact ((hset.abandon n).ite hset).enterLine ..
  · exact ((hset.enterLine ..).originate n).ite (hset.enterLine ..)
  · exact hset

@[simp] theorem commitProfile (n : Line) (w : Word) : (p.commitProfile n w).EvolvedFrom l := by
  unfold Part.commitProfile
  split
  · exact h.tableRefused ..
  · exact (h.tableRefused ..).ite (h.installProfile ..)

@[simp] theorem installChanConfig (k : Chan) (config : ChanConfig) : (p.installChanConfig k config).EvolvedFrom l := by
  have hset := fun c => h.setChan k c
  unfold Part.installChanConfig
  simp only
  split
  · exact (((hset _).restChan ..).ite (hset _)).ite ((hset _).setChan ..).judgeUnusable
  · exact (hset _).ite (((hset _).restChan ..).ite ((hset _).setChan ..).judgeUnusable)
  · exact hset _

@[simp] theorem commitChanConfig (k : Chan) (w : Word) : (p.commitChanConfig k w).EvolvedFrom l := by
  unfold Part.commitChanConfig
  split
  · exact h.tableRefused ..
  · exact h.installChanConfig ..

@[simp] theorem budgetChanged (before : Nat) : (p.budgetChanged before).EvolvedFrom l := h.grantSlots.ite h

@[simp] theorem installGeneral (g : GenConfig) : (p.installGeneral g).EvolvedFrom l := by
  have hset : ({ p with gen := g } : Part).EvolvedFrom l := h
  exact (hset.policyChanged _).budgetChanged _

@[simp] theorem commitGeneral (w : Word) : (p.commitGeneral w).EvolvedFrom l := by
  unfold Part.commitGeneral
  split
  · exact h.tableRefused ..
  · exact h.installGeneral _

@[simp] theorem commitTone (t : ToneIx) (w : Word) : (p.commitTone t w).EvolvedFrom l := by
  unfold Part.commitTone
  split
  · exact h.tableRefused ..
  · exact h

@[simp] theorem commitCadence (w : Word) : (p.commitCadence w).EvolvedFrom l := by
  unfold Part.commitCadence
  split
  · exact h.tableRefused ..
  · exact h

@[simp] theorem commitEntry (d : EntryIx) (w : Word) : (p.commitEntry d w).EvolvedFrom l := by
  unfold Part.commitEntry
  simp only
  split
  · exact h.tableRefused ..
  · exact h

@[simp] theorem tableWord (off : Nat) (w : Word) : (p.tableWord off w).EvolvedFrom l := by
  unfold Part.tableWord
  refine (h.writePending off w).ite (ite ?_ (ite ?_ (ite ?_
    ((h.commitGeneral w).ite (ite ?_ ((h.commitCadence w).ite ?_))))))
  all_goals split
  · exact h.installCode ..
  · exact h
  · exact h.commitProfile ..
  · exact h
  · exact h.commitChanConfig ..
  · exact h
  · exact h.commitTone ..
  · exact h
  · exact h.commitEntry ..
  · exact h

/-! ## The command unit -/

@[simp] theorem raiseSequence : p.raiseSequence.EvolvedFrom l := h.withCmd _

@[simp] theorem refuseCommand (code : BitVec 8) (reason : CommandResult) : (p.refuseCommand code reason).EvolvedFrom l :=
  (h.hand ..).requestEcho _

omit h in
theorem short {effect : Part → Part} (heffect : (effect p).EvolvedFrom l) (c : Command) :
    (p.short c effect).EvolvedFrom l := heffect.commandEnded ..

@[simp] theorem accepted (c : Command) : (p.accepted c).EvolvedFrom l := h.requestEcho _

@[simp] theorem start : p.start.EvolvedFrom l := (h.withCmd _).linkAtStart

@[simp] theorem handSnapshotEnd (aborted : Bool) : (p.handSnapshotEnd aborted).EvolvedFrom l := h.hand ..

@[simp] theorem snapshotNext (next : Nat) : (p.snapshotNext next).EvolvedFrom l := by
  unfold Part.snapshotNext
  split
  · exact (h.hand ..).setLong _
  · exact (h.hand ..).setLong _
  · exact ((h.handSnapshotEnd false).setLong _).commandEnded ..

@[simp] theorem continueSnapshot : p.continueSnapshot.EvolvedFrom l := by
  unfold Part.continueSnapshot
  split
  · exact h.snapshotNext _
  · exact h

@[simp] theorem takeDisposal : p.takeDisposal.EvolvedFrom l := by
  unfold Part.takeDisposal
  split
  · exact h
  · have htaken := fun c => h.withCmd c
    exact (htaken _).ite ((htaken _).continueSnapshot.ite
      (((htaken _).withCmd _).continueSnapshot.ite ((htaken _).withCmd _)))

@[simp] theorem beginLong (c : LongCommand) : (p.beginLong c).EvolvedFrom l := h.withCmd _

@[simp] theorem snapshot : p.snapshot.EvolvedFrom l := ((h.beginLong _).continueSnapshot.ite (h.beginLong _)).accepted _

@[simp] theorem requestRead (off : Nat) : (p.requestRead off).EvolvedFrom l := (h.withCmd _).request ..

@[simp] theorem continueRescan (off : Nat) : (p.continueRescan off).EvolvedFrom l := by
  unfold Part.continueRescan
  split
  · exact h.requestRead _
  · exact (h.withCmd _).commandEnded ..

@[simp] theorem takeRead (w : Word) : (p.takeRead w).EvolvedFrom l := by
  unfold Part.takeRead
  split
  · exact h
  · refine ite ?_ ((h.tableWord ..).continueRescan _)
    split
    · exact h.requestRead _
    · exact h.withCmd _

@[simp] theorem rescan : p.rescan.EvolvedFrom l := (((h.beginLong _).requestRead _).ite (h.beginLong _)).accepted _

@[simp] theorem clearCalls : p.clearCalls.EvolvedFrom l := (h.beginLong _).ite ((h.beginLong _).accepted _)

@[simp] theorem abortLong : p.abortLong.EvolvedFrom l := by
  unfold Part.abortLong
  split
  · exact h
  · exact (h.setLong _).commandEnded ..
  · exact (h.withCmd _).commandEnded ..
  · exact ((h.withCmd _).handSnapshotEnd true).commandEnded ..

@[simp] theorem haltLine (n : Line) : (p.haltLine n).EvolvedFrom l := h.ite (h.enterLine ..)

@[simp] theorem emptyQueue : p.emptyQueue.EvolvedFrom l := h.withAlloc _

@[simp] theorem emptyRing : p.emptyRing.EvolvedFrom l := h.withRing _

@[simp] theorem halt : p.halt.EvolvedFrom l := by
  have hlink := (h.abortLong.withCmd { p.abortLong.cmd with mode := .halted, starting := [] }).emptyQueue.linkAtHalt
  exact ((hlink.foldl (fun _ k hq => hq.haltChan k) _).foldl (fun _ n hq => hq.haltLine n) _).emptyQueue.emptyRing

@[simp] theorem resetLine (n : Line) : (p.resetLine n).EvolvedFrom l := by
  unfold Part.resetLine
  refine h.ite ?_
  simp only
  split
  · exact (h.abandon n).enterLine ..
  · exact (h.abandon n).enterLine ..

@[simp] theorem lineReset (operand : BitVec 8) : (p.lineReset operand).EvolvedFrom l := by
  unfold Part.lineReset
  split
  · exact h.resetLine _
  · exact h

@[simp] theorem channelReset (operand : BitVec 8) : (p.channelReset operand).EvolvedFrom l := by
  unfold Part.channelReset
  split
  · exact h.resetChan _
  · exact h

@[simp] theorem echoCompleted : p.echoCompleted.EvolvedFrom l := by
  have hended := h.withCmd { p.cmd with echoOutstanding := false }
  unfold Part.echoCompleted
  simp only
  split
  · exact (hended.withCmd _).requestEcho _
  · exact hended

/-! ## The report writer -/

@[simp] theorem headerWrite (x : BufferId) (w : Word) (completed : Bool) : (p.headerWrite x w completed).EvolvedFrom l := by
  cases x with
  | a => exact h
  | b => exact h

@[simp] theorem writeClosing (x : BufferId) (reason : CloseReason) (clock : Word) (i : Fin 4) :
    (p.writeClosing x reason clock i).EvolvedFrom l := by
  unfold Part.writeClosing
  split
  all_goals exact h

@[simp] theorem closeBuffer (x : BufferId) (reason : CloseReason) : (p.closeBuffer x reason).EvolvedFrom l := by
  have hstopped : ({ p with report := { p.report with age := .stopped, closePending := none } } : Part).EvolvedFrom l := h
  exact hstopped.writeClosing ..

@[simp] theorem closeOrPend (reason : CloseReason) : (p.closeOrPend reason).EvolvedFrom l := by
  unfold Part.closeOrPend
  split
  · exact h
  · exact h.closeBuffer ..
  · exact h.closeBuffer ..
  · exact h
  · split
    · exact h
    · exact h

@[simp] theorem ageExpired : p.ageExpired.EvolvedFrom l := by
  have hstopped : ({ p with report := { p.report with age := .stopped } } : Part).EvolvedFrom l := h
  exact hstopped.closeOrPend _

@[simp] theorem meetExpiry : p.meetExpiry.EvolvedFrom l := by
  unfold Part.meetExpiry
  split
  · exact h
  · exact h

@[simp] theorem recordWritten (x : BufferId) (kind : RecordKind) : (p.recordWritten x kind).EvolvedFrom l := by
  have hcounted : ({ p with report := { p.report with
      recordCount := p.report.recordCount + 1, job := .none
      age := if p.report.recordCount = 0 then .started else p.report.age } } : Part).EvolvedFrom l := h
  unfold Part.recordWritten
  simp only
  split
  · exact hcounted.closeBuffer ..
  · exact hcounted.meetExpiry

/-- R183: the head of the queue has been written and leaves it. -/
@[simp] theorem dropHead (r : Record) : (p.dropHead r).EvolvedFrom l := h.step .headWritten

@[simp] theorem bufferFull (x : BufferId) : (p.bufferFull x).EvolvedFrom l := by
  cases x with
  | a => exact h
  | b => exact h

@[simp] theorem wordWritten : p.wordWritten.EvolvedFrom l := by
  unfold Part.wordWritten
  split
  · exact h
  · split
    · have hwritten : ({ p with report := { p.report with gap := none } } : Part).EvolvedFrom l := h
      exact ite (hwritten.recordWritten ..) h
    · exact h
  · split
    · exact ite ((h.dropHead _).recordWritten ..) h
    · exact h
  · exact (h.bufferFull _).ite (h.writeClosing ..)
  · exact h

/-! ## The end of an event -/

@[simp] theorem judgeClearCalls : p.judgeClearCalls.EvolvedFrom l := ((h.setLong _).commandEnded ..).ite h

/-- R182: a buffer that is taken reports the lost count and sets it to 0. -/
@[simp] theorem takeBuffer : p.takeBuffer.EvolvedFrom l := by
  unfold Part.takeBuffer
  refine ite ?_ h
  split
  · exact h
  · rename_i buffer _
    cases buffer with
    | a => exact h.step .lostReported
    | b => exact h.step .lostReported

@[simp] theorem beginRecord : p.beginRecord.EvolvedFrom l := by
  unfold Part.beginRecord
  split
  · split
    · exact h
    · exact h
    · exact h
  · exact h

@[simp] theorem settled : p.settled.EvolvedFrom l := h.judgeClearCalls.takeBuffer.beginRecord

end Part.EvolvedFrom

/-! ## Every event -/

/-- The ledger after an event of a block has come from the ledger before it. -/
theorem Part.Event.evolved {p q : Part} (h : Part.Event p q) : q.EvolvedFrom p.ledger := by
  have hp := p.evolvedFrom_self
  cases h with
  | offHook n => exact hp.takeEvent (fun _ hq => hq.offHook n) n
  | onHook n => exact hp.takeEvent (fun _ hq => hq.onHook n) n
  | digit n d => exact hp.takeEvent (fun _ hq => hq.dialDigit n d) n
  | misdial n => exact hp.takeEvent (fun _ hq => hq.misdial n) n
  | start => exact .short hp.raiseSequence.start _
  | halt => exact .short hp.raiseSequence.halt _
  | linkUp => exact .short hp.raiseSequence.linkUp _
  | linkDown => exact .short hp.raiseSequence.linkDown _
  | lineReset o => exact .short (hp.raiseSequence.lineReset o) _
  | channelReset o => exact .short (hp.raiseSequence.channelReset o) _
  | reportFlush => exact .short (hp.raiseSequence.closeOrPend .flush) _
  | noCommand => exact hp
  | _ => simp [hp]

end Sys2Proof.Machine
end

section
/-! What a command does outside the blocks, to memory and to the run counter (R152, R158), and the statement that every step
keeps the canonical form and the bounds. -/

namespace Sys2Proof.Machine

/-! ## The part: what the changes of a ledger keep -/

/-- The bounds of R129, R162 and R179. -/
structure Ledger.Bounded (l : Ledger) : Prop where
  hold : l.supply.hold ≤ 800
  frame : l.clock.frame ≤ 7
  queue : l.queue.length ≤ 8
  lost : l.lost ≤ 65535

theorem Ledger.Step.bounded {l l' : Ledger} (hl : l.Bounded) (hstep : l.Step l') : l'.Bounded := by
  cases hstep with
  | record r =>
    unfold Ledger.receive
    split
    · rename_i hroom
      exact { hl with queue := List.length_append.trans_le hroom }
    · exact { hl with lost := min_le_left _ _ }
  | headWritten => exact { hl with queue := (List.length_tail ▸ Nat.sub_le ..).trans hl.queue }
  | lostReported => exact { hl with lost := Nat.zero_le _ }
  | copyWritten off w => exact { hl with }
  | supplyTaken warning => exact { hl with hold := Nat.zero_le _ }

theorem Ledger.Step.copiesWf {l l' : Ledger} (hl : Memory.wf l.copies = true) (hstep : l.Step l') :
    Memory.wf l'.copies = true := by
  cases hstep with
  | record r =>
    unfold Ledger.receive
    split
    · exact hl
    · exact hl
  | copyWritten off w => exact WordStore.wf_write off w hl
  | headWritten | lostReported | supplyTaken => exact hl

/-- R129: the hold count saturates. -/
theorem Supply.tick_hold_le (v : Supply) (supw : Bool) : (v.tick supw).hold ≤ 800 := by
  unfold Supply.tick
  simp only
  split
  · exact Nat.zero_le _
  · exact min_le_left _ _

/-- R162: the frame counter wraps. -/
theorem Clock.tick_frame_le {c : Clock} (h : c.frame ≤ 7) : c.tick.frame ≤ 7 := by
  unfold Clock.tick
  split
  · exact Nat.zero_le _
  · rename_i hwrap
    exact Nat.lt_succ_iff.mp (Nat.lt_of_le_of_ne (Nat.succ_le_succ h) hwrap)

theorem Part.strobe_ledger (p : Part) (rrdy rwake supw : Bool) : (p.strobe rrdy rwake supw).ledger =
    { p.ledger with supply := p.supply.tick supw, clock := p.clock.tick } := rfl

theorem Part.strobe_outbox (p : Part) (rrdy rwake supw : Bool) : (p.strobe rrdy rwake supw).outbox = p.outbox := by
  unfold Part.strobe
  rfl

theorem Ledger.Bounded.strobe {p : Part} (h : p.ledger.Bounded) (rrdy rwake supw : Bool) :
    (p.strobe rrdy rwake supw).ledger.Bounded := by
  rw [Part.strobe_ledger]
  exact { h with hold := p.supply.tick_hold_le supw, frame := Clock.tick_frame_le h.frame }

/-! ## Memory and the run counter -/

/-- What `State.canonical` and `State.bounded` speak of outside the part: memory and the run counter. -/
structure Outside where
  mem : WordStore
  run : Nat

/-- Memory and the run counter of a machine. -/
def State.outside (s : State) : Outside := ⟨s.mem, s.path.runCounter⟩

/-- One change that a command may make outside the part. -/
inductive Outside.Step (o : Outside) : Outside → Prop where
  /-- An access writes a word (R152, R156). -/
  | written (a : Nat) (w : Word) : Step o { o with mem := o.mem.write a w }
  /-- The run counter is set to 0 (R158). -/
  | cleared : Step o { o with run := 0 }
  /-- A forwarded access starts while an own request waits (R158). -/
  | counted (h : o.run < Config.runLimit) : Step o { o with run := o.run + 1 }

/-- The machine's memory and run counter have come from `o` by such changes. -/
def State.ServedFrom (s : State) (o : Outside) : Prop := Relation.ReflTransGen Outside.Step o s.outside

theorem State.servedFrom_self (s : State) : s.ServedFrom s.outside := .refl

/-- What every change keeps is kept. -/
theorem State.ServedFrom.keeps {K : Outside → Prop} (hstep : ∀ {o o'}, K o → Outside.Step o o' → K o') {s : State}
    {o : Outside} (h : s.ServedFrom o) (ho : K o) : K s.outside := by
  unfold State.ServedFrom at h
  generalize s.outside = o' at h
  induction h with
  | refl => exact ho
  | tail _ hlast ih => exact hstep ih hlast

/-- R158: what the arbiter makes of the run counter. -/
theorem Path.arbitrate_runCounter (x : Path) (p : Part) :
    (x.arbitrate p).runCounter = x.runCounter ∨ (x.arbitrate p).runCounter = 0 ∨
      (x.runCounter < Config.runLimit ∧ (x.arbitrate p).runCounter = x.runCounter + 1) := by
  have hstarts (y : Path) (access : MasterAccess) : (y.startForwarded p access).runCounter = y.runCounter := by
    cases access <;> rfl
  unfold Path.arbitrate
  split
  · exact .inr (.inl (hstarts ..))
  · split
    · exact .inr (.inr ⟨‹_›, hstarts ..⟩)
    · exact .inr (.inl rfl)
  · exact .inr (.inl rfl)
  · exact .inl rfl

/-- The completion of an own access leaves the run counter. -/
theorem Path.ownDone_runCounter (x : Path) (who : Requester) (orphan : Bool) (word : Word) :
    (x.ownDone who orphan word).runCounter = x.runCounter := by
  unfold Path.ownDone
  split
  · rfl
  · cases who with
    | _ => rfl

namespace State.ServedFrom

variable {s t : State} {o : Outside}

theorem step (h : s.ServedFrom o) (hstep : Outside.Step s.outside t.outside) : t.ServedFrom o := .tail h hstep

theorem ite {c : Prop} [Decidable c] (hs : s.ServedFrom o) (ht : t.ServedFrom o) : (if c then s else t).ServedFrom o := by
  split
  · exact hs
  · exact ht

/-- R158: the arbiter has judged a path that had the run counter as it was. -/
theorem arbitrated (h : s.ServedFrom o) {x : Path} {p : Part} (hmem : t.mem = s.mem) (hpath : t.path = x.arbitrate p)
    (hrun : x.runCounter = s.path.runCounter) : t.ServedFrom o := by
  have hout : t.outside = ⟨s.mem, (x.arbitrate p).runCounter⟩ := by rw [State.outside, hmem, hpath]
  rcases x.arbitrate_runCounter p with hsame | hcleared | ⟨hroom, hcounted⟩
  · have hkept : t.outside = s.outside := by rw [hout, hsame, hrun, State.outside]
    unfold State.ServedFrom
    rw [hkept]
    exact h
  · rw [hcleared] at hout
    exact h.step (hout ▸ .cleared)
  · rw [hcounted, hrun] at hout
    rw [hrun] at hroom
    exact h.step (hout ▸ .counted hroom)

section Ops

variable (h : s.ServedFrom o)
include h

/-- The part is another matter. -/
theorem withPart (p : Part) : ({ s with part := p } : State).ServedFrom o := h

/-- A change of the path that leaves the run counter. -/
theorem withPath {x : Path} (hrun : x.runCounter = s.path.runCounter) : ({ s with path := x } : State).ServedFrom o := by
  have hout : ({ s with path := x } : State).outside = s.outside := by simp only [State.outside, hrun]
  unfold State.ServedFrom
  rw [hout]
  exact h

theorem event (act : Part → Part) : (s.event act).ServedFrom o := h.ite (h.arbitrated rfl rfl rfl)

theorem eventIf (due : Part → Bool) (act : Part → Part) : (s.eventIf due act).ServedFrom o := (h.event act).ite h

theorem present (access : MasterAccess) : (s.present access).ServedFrom o := h.ite (h.arbitrated rfl rfl rfl)

/-- A word is written. -/
theorem written (a : Nat) (w : Word) : ({ s with mem := s.mem.write a w } : State).ServedFrom o := h.step (.written a w)

/-- A whole access sets the run counter to 0 (log 3). -/
theorem cleared (hmem : t.mem = s.mem) (hrun : t.path.runCounter = 0) : t.ServedFrom o := by
  have hout : t.outside = { s.outside with run := 0 } := by rw [State.outside, hmem, hrun, State.outside]
  exact h.step (hout ▸ .cleared)

theorem storeWord (address data : Word) : (s.storeWord address data).ServedFrom o := (h.written ..).cleared rfl rfl

theorem masterWrite (address data : Word) : (s.masterWrite address data).ServedFrom o :=
  ite ((h.written ..).cleared rfl rfl) (h.present _)

theorem readWord (off : Nat) : (s.readWord off).ServedFrom o :=
  ite (h.cleared rfl rfl) (h.present _)

theorem snooped (off : Nat) (data : Word) (act : Part → Part) : (s.snooped off data act).ServedFrom o := by
  unfold State.snooped
  simp only
  split
  · rename_i x _ _
    have htaken := h.withPath (x := { s.path with handovers := s.path.handovers.erase x }) rfl
    exact (htaken.event act).ite (h.masterWrite ..)
  · exact ((h.storeWord ..).event act).ite (h.masterWrite ..)
  · exact h.masterWrite ..

theorem completeAccess (access : Service) : (s.completeAccess access).ServedFrom o := by
  unfold State.completeAccess
  simp only
  split
  · exact (h.written ..).arbitrated rfl rfl rfl
  · exact h.arbitrated rfl rfl rfl
  · exact (h.written ..).arbitrated rfl rfl (Path.ownDone_runCounter ..)
  · exact h.arbitrated rfl rfl (Path.ownDone_runCounter ..)

theorem settle : s.settle.ServedFrom o := by
  unfold State.settle
  refine ite ?_ h
  generalize strobeEvents = events
  induction events generalizing s with
  | nil => exact h
  | cons e rest ih => exact ih (h.eventIf ..)

end Ops

end State.ServedFrom

/-! ## Every command -/

/-- What memory and the run counter are after a command has come from what they were. -/
theorem exec_servedFrom {i : Instr} {s t : State} (he : exec i s = .next t) : t.ServedFrom s.outside := by
  have hs := s.servedFrom_self
  cases i with
  | resetAssertion => cases he; exact hs.cleared rfl rfl
  | resetRelease area => cases he; exact .ite hs hs
  | frameStrobe rrdy rwake supw => cases he; exact hs.ite (hs.settle.withPart _)
  | forwardedAccessPresented access => cases he; exact hs.present access
  | portAccessComplete =>
    cases he
    split
    · exact hs
    · exact hs.completeAccess _
  | masterWrite address data => cases he; exact hs.masterWrite address data
  | signalOutRead | channelListenRead | lineListenRead | lineDriveRead => cases he; exact hs.readWord _
  | senseWrite | signalInWrite | signalCodeInstall | directoryCommit | profileCommit | channelConfigCommit
  | generalConfigCommit | toneDescriptorCommit | ringCadenceCommit | start | halt | clearCalls | rescan | snapshot | linkUp
  | linkDown | lineReset | channelReset | reportFlush | headerStateWrite => cases he; exact hs.snooped ..
  | pendingWordWrite off w => cases he; exact (hs.snooped ..).ite hs
  | commandUndefined w => cases he; exact hs.ite (hs.snooped ..)
  | echoWriteComplete => cases he; exact ((hs.withPath (x := { s.path with echoDone := false }) rfl).event _).ite hs
  | reportWordWriteComplete => cases he; exact ((hs.withPath (x := { s.path with reportDone := false }) rfl).event _).ite hs
  | rescanReadComplete =>
    cases he
    split
    · exact (hs.withPath (x := { s.path with rescanDone := none }) rfl).event _
    · exact hs
  | _ => cases he; exact hs.eventIf ..

theorem Outside.Step.memWf {o o' : Outside} (ho : Memory.wf o.mem = true) (hstep : o.Step o') :
    Memory.wf o'.mem = true := by
  cases hstep with
  | written a w => exact WordStore.wf_write a w ho
  | cleared => exact ho
  | counted _ => exact ho

theorem Outside.Step.run_le {o o' : Outside} (ho : o.run ≤ 16) (hstep : o.Step o') : o'.run ≤ 16 := by
  cases hstep with
  | written a w => exact ho
  | cleared => exact Nat.zero_le _
  | counted hroom => exact hroom

/-! ## The statement -/

theorem State.canonical_iff (s : State) :
    s.canonical ↔ Memory.wf s.outside.mem = true ∧ Memory.wf s.part.ledger.copies = true := Iff.rfl

theorem State.bounded_iff (s : State) :
    s.bounded ↔ s.outside.run ≤ 16 ∧ s.part.ledger.Bounded ∧ s.part.outbox = [] :=
  ⟨fun ⟨hold, hrun, hframe, hqueue, hlost, hout⟩ => ⟨hrun, ⟨hold, hframe, hqueue, hlost⟩, hout⟩,
    fun ⟨hrun, ⟨hold, hframe, hqueue, hlost⟩, hout⟩ => ⟨hold, hrun, hframe, hqueue, hlost, hout⟩⟩

theorem exec_canonical {i : Instr} {s t : State} (hs : s.canonical) (he : exec i s = .next t) : t.canonical := by
  rw [State.canonical_iff] at hs ⊢
  obtain ⟨hmem, hcopies⟩ := hs
  have hevent {p q : Part} (hp : Memory.wf p.ledger.copies = true) (hpq : Part.Event p q) :
      Memory.wf q.settled.ledger.copies = true :=
    hpq.evolved.settled.keeps (K := fun l => Memory.wf l.copies = true) Ledger.Step.copiesWf hp
  have hstrobe (p : Part) (rrdy rwake supw : Bool) (hp : Memory.wf p.ledger.copies = true) :
      Memory.wf (p.strobe rrdy rwake supw).ledger.copies = true := by rwa [Part.strobe_ledger]
  exact ⟨(exec_servedFrom he).keeps (K := fun o => Memory.wf o.mem = true) Outside.Step.memWf hmem,
    exec_inv (Inv := fun p => Memory.wf p.ledger.copies = true) rfl (fun _ => rfl) (fun _ _ => hevent) hstrobe hcopies he⟩

theorem Part.reset_bounded : Part.reset.ledger.Bounded := ⟨by decide, by decide, by decide, by decide⟩

/-- The release of RESETN leaves one record in the queue (R180). -/
theorem Part.released_bounded (area : Fin 4) : (Part.released area).ledger.Bounded :=
  { Part.reset_bounded with queue := (by decide : 1 ≤ 8) }

theorem exec_bounded {i : Instr} {s t : State} (hs : s.bounded) (he : exec i s = .next t) : t.bounded := by
  rw [State.bounded_iff] at hs ⊢
  obtain ⟨hrun, hpart⟩ := hs
  have hevent {p q : Part} (hp : p.ledger.Bounded ∧ p.outbox = []) (hpq : Part.Event p q) :
      q.settled.ledger.Bounded ∧ q.settled.outbox = [] := ⟨hpq.evolved.settled.keeps Ledger.Step.bounded hp.1, rfl⟩
  have hstrobe (p : Part) (rrdy rwake supw : Bool) (hp : p.ledger.Bounded ∧ p.outbox = []) :
      (p.strobe rrdy rwake supw).ledger.Bounded ∧ (p.strobe rrdy rwake supw).outbox = [] :=
    ⟨hp.1.strobe .., (p.strobe_outbox ..).trans hp.2⟩
  exact ⟨(exec_servedFrom he).keeps (K := fun o => o.run ≤ 16) Outside.Step.run_le hrun,
    exec_inv (Inv := fun p => p.ledger.Bounded ∧ p.outbox = []) ⟨Part.reset_bounded, rfl⟩
      (fun area => ⟨Part.released_bounded area, rfl⟩) (fun _ _ => hevent) hstrobe hpart he⟩

/-- What every command keeps, every step keeps: on an empty queue nothing changes (log 4), and the rest of the queue is no
matter of the invariant. -/
theorem step_keeps {Inv : State → Prop} (hrest : ∀ (s : State) rest, Inv s → Inv { s with pending := rest })
    (hexec : ∀ i s t, Inv s → exec i s = .next t → Inv t) {s t : State} (hs : Inv s) (hstep : step s = .next t) :
    Inv t := by
  unfold step at hstep
  split at hstep
  · cases hstep
    exact hs
  · exact hexec _ _ _ (hrest s _ hs) hstep

/-- Settles O57: outside the part a command writes words and counts, and in the part the events change the ledger step by
step; each such change keeps the form and the bounds. -/
theorem canonicalAndBoundedKept : Obligations.CanonicalAndBoundedKept :=
  ⟨fun _ _ hs hstep => step_keeps (Inv := State.canonical) (fun _ _ h => h) (fun _ _ _ => exec_canonical) hs hstep,
    fun _ _ hs hstep => step_keeps (Inv := State.bounded) (fun _ _ h => h) (fun _ _ _ => exec_bounded) hs hstep⟩

end Sys2Proof.Machine
end

section
/-! The supply monitor, the ring scheduler and the ends of a step: what an acceptance of SUPW and an alert limit do, how slots
are requested, given up and granted, and then the statement about them (R30, R81, R130 to R136, R138, R140, R146). -/

namespace Sys2Proof.Machine

/-! ## The ring budget (R131) -/

section Budget

variable {p : Part}

theorem Part.effectiveBudget_warned (h : p.supply.warning = true) : p.effectiveBudget = 1 := if_pos h

theorem Part.effectiveBudget_clear (h : p.supply.warning = false) : p.effectiveBudget = p.gen.ringBudget :=
  if_neg (by simp [h])

/-- R169: the ring budget of a general configuration in range is not 0. -/
theorem GenConfig.ringBudget_pos {g : GenConfig} (h : g.inRange = true) : 1 ≤ g.ringBudget := by
  simp only [GenConfig.inRange, within, Bool.and_eq_true, decide_eq_true_eq] at h
  omega

end Budget

/-! ## Slots (R133 to R136) -/

section Slots

variable {p : Part} {n : Line}

theorem Part.grantSlots_stays (h : p.ring.queue = [] ∨ p.effectiveBudget ≤ slotsHeld p.ring.slots) : p.grantSlots = p := by
  have hgranted : grantFrom p.effectiveBudget p.ring.queue p.ring.slots = (p.ring.queue, p.ring.slots) := by
    cases hqueue : p.ring.queue with
    | nil => rfl
    | cons n rest => exact if_neg (Nat.not_lt.mpr (h.resolve_left (by rw [hqueue]; exact List.cons_ne_nil _ _)))
  unfold Part.grantSlots
  rw [hgranted]

/-- R134: the queue head is granted a slot, and the grants go on. -/
theorem Part.grantSlots_head {rest : List Line} (hqueue : p.ring.queue = n :: rest)
    (hfree : slotsHeld p.ring.slots < p.effectiveBudget) : p.grantSlots =
      { p with ring := { p.ring with queue := rest, slots := p.ring.slots.set n.val (some ⟨0, 0, none⟩) } }.grantSlots := by
  have hgranted : grantFrom p.effectiveBudget p.ring.queue p.ring.slots =
      grantFrom p.effectiveBudget rest (p.ring.slots.set n.val (some .start)) := by
    rw [hqueue]
    exact if_pos hfree
  unfold Part.grantSlots
  rw [hgranted]
  rfl

theorem Part.alertRequest_again (h : (∃ c, p.ring.slots[n] = some c) ∨ n ∈ p.ring.queue) : p.alertRequest n = p :=
  if_pos (h.imp_left Option.isSome_iff_exists.mpr)

/-- R133: a line that asks anew gets a slot below the budget and otherwise joins the queue; its alert limit starts. -/
theorem Part.alertRequest_new (hslot : ¬ ∃ c, p.ring.slots[n] = some c) (hqueue : n ∉ p.ring.queue) : p.alertRequest n =
    if slotsHeld p.ring.slots < p.effectiveBudget then
      { p with ring := { p.ring with
        alert := p.ring.alert.set n.val ⟨true, 0, false⟩, slots := p.ring.slots.set n.val (some ⟨0, 0, none⟩) } }
    else { p with ring := { p.ring with alert := p.ring.alert.set n.val ⟨true, 0, false⟩, queue := p.ring.queue ++ [n] } } :=
  if_neg (not_or.mpr ⟨mt Option.isSome_iff_exists.mp hslot, hqueue⟩)

/-- R135: a line that holds a slot gives it up, and the queue is granted from. -/
theorem Part.alertCancel_slot (h : ∃ c, p.ring.slots[n] = some c) : p.alertCancel n =
    { p with ring := { p.ring with
      alert := p.ring.alert.set n.val ⟨false, 0, false⟩, slots := p.ring.slots.set n.val none } }.grantSlots :=
  if_pos (Option.isSome_iff_exists.mpr h)

/-- R135: a line that holds none leaves the queue. -/
theorem Part.alertCancel_noSlot (h : ¬ ∃ c, p.ring.slots[n] = some c) : p.alertCancel n =
    { p with ring := { p.ring with
      alert := p.ring.alert.set n.val ⟨false, 0, false⟩, queue := p.ring.queue.filter (· != n) } } :=
  if_neg (mt Option.isSome_iff_exists.mp h)

end Slots

/-! ## The acceptance of SUPW (R81, R130, R131) -/

section Supply

variable {p : Part}

theorem Part.anyWaiter_iff (p : Part) : p.alloc.waiters.toList.any Option.isSome = true ↔
    ∃ (n : Line) (e : WaitEntry), p.alloc.waiters[n] = some e := by
  rw [List.any_eq_true]
  constructor
  · rintro ⟨w, hmem, hsome⟩
    obtain ⟨i, hi, rfl⟩ := Vector.mem_iff_getElem.1 (Vector.mem_toList_iff.1 hmem)
    obtain ⟨e, he⟩ := Option.isSome_iff_exists.1 hsome
    exact ⟨⟨i, hi⟩, e, he⟩
  · rintro ⟨n, e, he⟩
    exact ⟨some e, Vector.mem_toList_iff.2 (he ▸ Vector.getElem_mem n.isLt), rfl⟩

theorem Part.supplyToAllocator_none
    (h : p.supply.warning = true ∨ p.link.state = .up ∨ ∀ n : Line, p.alloc.waiters[n] = none) :
    p.supplyToAllocator = p := by
  refine if_neg fun ⟨hclear, hdown, hany⟩ => ?_
  obtain ⟨n, e, he⟩ := p.anyWaiter_iff.1 hany
  rcases h with hwarned | hup | hempty
  · exact hclear hwarned
  · exact hdown hup
  · exact nomatch (hempty n).symm.trans he

theorem Part.supplyToAllocator_demand {n : Line} {e : WaitEntry} (hclear : p.supply.warning = false)
    (hdown : p.link.state ≠ .up) (hwaits : p.alloc.waiters[n] = some e) : p.supplyToAllocator = p.demand :=
  if_pos ⟨by rw [hclear]; decide, hdown, p.anyWaiter_iff.2 ⟨n, e, hwaits⟩⟩

/-- R130: the SUPPLY record of a part whose supply monitor has taken a change. -/
def Part.handSupply (p : Part) (warning : Bool) : Part :=
  { p with supply := ⟨warning, 0⟩ }.hand .supply .none (detail1 (if warning then 1 else 0))
    (detail1 (if warning then 1 else p.gen.ringBudget))

@[simp] theorem Part.handSupply_supply (warning : Bool) : (p.handSupply warning).supply = ⟨warning, 0⟩ := Part.hand_supply ..
@[simp] theorem Part.handSupply_gen (warning : Bool) : (p.handSupply warning).gen = p.gen := Part.hand_gen ..
@[simp] theorem Part.handSupply_link (warning : Bool) : (p.handSupply warning).link = p.link := Part.hand_link ..
@[simp] theorem Part.handSupply_alloc (warning : Bool) : (p.handSupply warning).alloc = p.alloc := Part.hand_alloc ..

/-- R130: the record, then the ring scheduler, then the allocator. -/
theorem Part.acceptSupply_eq (p : Part) : p.acceptSupply =
    ((p.handSupply !p.supply.warning).budgetChanged p.effectiveBudget).supplyToAllocator := rfl

/-- R130: when the supply warning comes on the budget falls to 1, and no slot is granted and no demand handed. -/
theorem Part.acceptSupply_warns (hclear : p.supply.warning = false) (hbudget : 1 ≤ p.gen.ringBudget) :
    p.acceptSupply = p.handSupply true := by
  have hwarned : (p.handSupply true).supply.warning = true := by rw [Part.handSupply_supply]
  have hkept : (p.handSupply true).budgetChanged p.effectiveBudget = p.handSupply true := by
    refine if_neg (Nat.not_lt.mpr ?_)
    rwa [Part.effectiveBudget_warned hwarned, Part.effectiveBudget_clear hclear]
  rw [Part.acceptSupply_eq, hclear, Bool.not_false, hkept, Part.supplyToAllocator_none (.inl hwarned)]

/-- R130, R131: the part when the supply warning has gone: the record, and grants where the budget rises. -/
def Part.supplyCleared (p : Part) : Part :=
  if 1 < p.gen.ringBudget then (p.handSupply false).grantSlots else p.handSupply false

theorem Part.supplyCleared_cases {motive : Part → Prop} (hgrants : motive (p.handSupply false).grantSlots)
    (hstays : motive (p.handSupply false)) : motive p.supplyCleared := by
  unfold Part.supplyCleared
  split
  · exact hgrants
  · exact hstays

theorem Part.supplyCleared_warning : p.supplyCleared.supply.warning = false :=
  Part.supplyCleared_cases (motive := (·.supply.warning = false)) (by simp) (by simp)

theorem Part.supplyCleared_link : p.supplyCleared.link = p.link :=
  Part.supplyCleared_cases (motive := (·.link = p.link)) (by simp) (by simp)

theorem Part.supplyCleared_alloc : p.supplyCleared.alloc = p.alloc :=
  Part.supplyCleared_cases (motive := (·.alloc = p.alloc)) (by simp) (by simp)

theorem Part.acceptSupply_clears (hwarned : p.supply.warning = true) :
    p.acceptSupply = p.supplyCleared.supplyToAllocator := by
  have hbudget : (p.handSupply false).effectiveBudget = p.gen.ringBudget := by
    rw [Part.effectiveBudget_clear (by rw [Part.handSupply_supply]), Part.handSupply_gen]
  rw [Part.acceptSupply_eq, hwarned, Bool.not_true, Part.budgetChanged, hbudget, Part.effectiveBudget_warned hwarned]
  rfl

/-- R81: with the link UP or no entry in the queue no demand is handed. -/
theorem Part.acceptSupply_quiet (hwarned : p.supply.warning = true)
    (h : p.link.state = .up ∨ ∀ n : Line, p.alloc.waiters[n] = none) : p.acceptSupply = p.supplyCleared := by
  rw [Part.acceptSupply_clears hwarned]
  exact Part.supplyToAllocator_none (.inr (by rwa [Part.supplyCleared_link, Part.supplyCleared_alloc]))

/-- R81: with the link not UP and an entry in the queue demand is handed. -/
theorem Part.acceptSupply_demands {n : Line} {e : WaitEntry} (hwarned : p.supply.warning = true)
    (hdown : p.link.state ≠ .up) (hwaits : p.alloc.waiters[n] = some e) : p.acceptSupply = p.supplyCleared.demand := by
  rw [Part.acceptSupply_clears hwarned]
  exact Part.supplyToAllocator_demand Part.supplyCleared_warning (by rwa [Part.supplyCleared_link])
    (by rwa [Part.supplyCleared_alloc])

end Supply

/-! ## The alert limit (R30, R140) -/

section AlertLimit

variable {p : Part} {n : Line} (hst : p.lines[n].state = .alerting)
include hst

theorem Part.alertExpired_line {m : Line} (hm : p.lines[n].partner = some (.line m)) :
    p.alertExpired n = (((p.alertCancel n).breakLine n).enterLine n .idle).dropLine m .busy := by
  simp only [Part.alertExpired, Part.endAlerting, Part.alertCancel_lines, hst, hm]

theorem Part.alertExpired_chan {k : Chan} (hk : p.lines[n].partner = some (.chan k)) :
    p.alertExpired n = (((p.alertCancel n).breakLine n).enterLine n .idle).clearChan k := by
  simp only [Part.alertExpired, Part.endAlerting, Part.alertCancel_lines, hst, hk]

end AlertLimit

/-! ## The rows -/

section Rows

variable {s : State} {q : Part} (hlive : s.live)
include hlive

theorem exec_supplyAcceptance_due (hhold : 800 ≤ s.part.supply.hold) (hq : s.part.acceptSupply = q) :
    exec .supplyAcceptance s = .next (s.after q) := by
  subst hq
  exact congrArg _ (State.eventIf_after hlive (decide_eq_true hhold))

theorem exec_alertLimitExpiry_due {n : Line} (hdue : s.part.ring.alert[n].due = true) (hq : s.part.alertExpired n = q) :
    exec (.alertLimitExpiry n) s = .next (s.after q) := by
  subst hq
  exact congrArg _ (State.eventIf_after hlive hdue)

/-- R138: a cadence position moves to the step that the strobe named. -/
theorem exec_cadenceStepEnd_due {n : Line} {step next : Fin 4} {count : Nat}
    (hslot : s.part.ring.slots[n] = some ⟨step, count, some next⟩) : exec (.cadenceStepEnd n) s = .next (s.after { s.part with
      ring := { s.part.ring with slots := s.part.ring.slots.set n.val (some ⟨next, 0, none⟩) } }) := by
  have hdue : s.part.cadenceDue n = true := by simp only [Part.cadenceDue, hslot, Option.isSome_some]
  have hmoves : s.part.endCadenceStep n = { s.part with
      ring := { s.part.ring with slots := s.part.ring.slots.set n.val (some ⟨next, 0, none⟩) } } := by
    simp only [Part.endCadenceStep, hslot, Option.map_some, CadencePosition.moved]
  rw [← hmoves]
  exact congrArg _ (State.eventIf_after hlive hdue)

/-- R146: a tone position moves to the step, with the frames left, that the strobe named. -/
theorem exec_toneStepEnd_due {n : Line} {tone : Option ToneIx} {step next : Fin 4} {left loaded : FramesLeft} {phase : Nat}
    (hposition : s.part.tone.positions[n] = ⟨tone, step, left, phase, some (next, loaded)⟩) :
    exec (.toneStepEnd n) s = .next (s.after { s.part with tone := { s.part.tone with
      positions := s.part.tone.positions.set n.val ⟨tone, next, loaded, 0, none⟩ } }) := by
  have hdue : s.part.toneStepDue n = true := by rw [Part.toneStepDue, hposition, Option.isSome_some]
  have hmoves : s.part.endToneStep n = { s.part with tone := { s.part.tone with
      positions := s.part.tone.positions.set n.val ⟨tone, next, loaded, 0, none⟩ } } := by
    rw [Part.endToneStep, hposition]
    rfl
  rw [← hmoves]
  exact congrArg _ (State.eventIf_after hlive hdue)

end Rows

/-! ## The statement -/

/-- Settles O54: the acceptance by the warning, the alert limit by the callee's partner, the step ends by the place that the
strobe named, and the ring scheduler by the slots held against the budget. -/
theorem supplyAlertsAndPositions : Obligations.SupplyAlertsAndPositions := by
  refine ⟨fun s hlive hhold hgeneral => ⟨?warns, fun hwarned => ⟨?quiet, ?demands⟩⟩,
    fun s n hlive hdue hst => ⟨?line, ?chan⟩, fun s n step count next hlive => exec_cadenceStepEnd_due hlive,
    fun s n tone step next left loaded phase hlive hposition => exec_toneStepEnd_due hlive hposition,
    fun p n => ⟨Part.alertRequest_again, fun hslot hqueue => ⟨?slot, ?queue⟩, Part.alertCancel_slot, Part.alertCancel_noSlot⟩,
    fun p => ⟨rfl, Part.grantSlots_stays, fun n rest => Part.grantSlots_head⟩⟩
  case warns =>
    obtain ⟨hrange, -⟩ := hgeneral
    exact fun hclear =>
      exec_supplyAcceptance_due hlive hhold (Part.acceptSupply_warns hclear (GenConfig.ringBudget_pos hrange))
  case quiet => exact fun h => exec_supplyAcceptance_due hlive hhold (Part.acceptSupply_quiet hwarned h)
  case demands =>
    exact fun n e hdown hwaits => exec_supplyAcceptance_due hlive hhold (Part.acceptSupply_demands hwarned hdown hwaits)
  case line => exact fun m hm => exec_alertLimitExpiry_due hlive hdue (Part.alertExpired_line hst hm)
  case chan => exact fun k hk => exec_alertLimitExpiry_due hlive hdue (Part.alertExpired_chan hst hk)
  case slot => exact fun hfree => (Part.alertRequest_new hslot hqueue).trans (if_pos hfree)
  case queue => exact fun hfull => (Part.alertRequest_new hslot hqueue).trans (if_neg (Nat.not_lt.mpr hfull))

end Sys2Proof.Machine
end

section
/-! Scaling of listen reads: each level code's effect on a two's-complement sample, and which reads of the switch area are
scaled, and then the statement about them (R148, Table 2-2). -/

namespace Sys2Proof.Machine

/-! ## Samples -/

/-- The result range of R148: a value from -32768 to 32767 stands in a sample as itself. -/
theorem toInt_ofInt_sample {x : Int} (hlow : -32768 ≤ x) (hhigh : x ≤ 32767) : (BitVec.ofInt 16 x).toInt = x :=
  BitVec.toInt_ofInt_eq_self (by decide) hlow (Int.lt_add_one_of_le hhigh)

theorem Word.toInt_bounds (w : Word) : -32768 ≤ w.toInt ∧ w.toInt ≤ 32767 :=
  ⟨BitVec.le_toInt w, Int.le_of_lt_add_one BitVec.toInt_lt⟩

/-! ## Level codes -/

section Scale

variable (w : Word)

@[simp] theorem LevelCode.scale_unity : LevelCode.unity.scale w = w := rfl

/-- BOOST doubles the sample and holds the double between the ends of the sample range. -/
theorem LevelCode.toInt_scale_boost : (LevelCode.boost.scale w).toInt =
    (if 32767 < 2 * w.toInt then 32767 else if 2 * w.toInt < -32768 then -32768 else 2 * w.toInt) := by
  have hheld : (LevelCode.boost.scale w).toInt = max (-32768) (min 32767 (2 * w.toInt)) :=
    toInt_ofInt_sample (by omega) (by omega)
  rw [hheld]
  split_ifs <;> omega

/-- CUT6 rounds the half of the sample toward minus infinity, which no sample takes out of range. -/
theorem LevelCode.toInt_scale_cut6 : (LevelCode.cut6.scale w).toInt = ⌊(w.toInt : ℚ) / 2⌋ := by
  obtain ⟨hlow, hhigh⟩ := Word.toInt_bounds w
  have hhalf : (LevelCode.cut6.scale w).toInt = w.toInt / 2 := toInt_ofInt_sample (by omega) (by omega)
  exact hhalf.trans (Rat.floor_intCast_div_natCast w.toInt 2).symm

/-- CUT12 rounds the quarter of the sample toward minus infinity, which no sample takes out of range. -/
theorem LevelCode.toInt_scale_cut12 : (LevelCode.cut12.scale w).toInt = ⌊(w.toInt : ℚ) / 4⌋ := by
  obtain ⟨hlow, hhigh⟩ := Word.toInt_bounds w
  have hquarter : (LevelCode.cut12.scale w).toInt = w.toInt / 4 := toInt_ofInt_sample (by omega) (by omega)
  exact hquarter.trans (Rat.floor_intCast_div_natCast w.toInt 4).symm

end Scale

/-! ## Reads of the switch area -/

@[simp] theorem State.readFrom_mem (s : State) (off source : Nat) (level : LevelCode) :
    (s.readFrom off source level).mem = s.mem := rfl

section Translate

variable (p : Part)

/-- Table 2-2: a word under the listen block is read untranslated. -/
theorem Part.translate_below_listen {off : Nat} (h : off < 0x040) : p.translate off = (off, .unity) := if_pos h

/-- A word beyond the listen block is read unscaled, whichever block translates it. -/
theorem Part.translate_level_beyond_listen {off : Nat} (h : 0x040 + 48 ≤ off) : (p.translate off).2 = .unity := by
  have hlisten : asFin 48 (off - 0x040) = none := asFin_none (by omega)
  unfold Part.translate
  rw [if_neg (by omega), hlisten]
  dsimp only
  split
  case isTrue hbelowDrive => rfl
  case isFalse hfromDrive =>
    split
    case h_1 n hdrive => rfl
    case h_2 hpastDrive =>
      split
      case isTrue hbelowChannels => rfl
      case isFalse hfromChannels =>
        split
        case h_1 k hchannel => rfl
        case h_2 hpastChannels =>
          split
          case isTrue hbelowSignals => rfl
          case isFalse hfromSignals =>
            split
            case h_1 k hsignal => rfl
            case h_2 hpastSignals => rfl

end Translate

/-! ## The statement -/

/-- Settles O14: the level codes one by one, and the reads by their place against the listen block. -/
theorem listenReadsAreScaledByLevelCode : Obligations.ListenReadsAreScaledByLevelCode := by
  refine ⟨fun w => ⟨LevelCode.scale_unity w, LevelCode.toInt_scale_boost w, LevelCode.toInt_scale_cut6 w,
      LevelCode.toInt_scale_cut12 w⟩, fun s n hlive hidle => ?listen,
    fun p n => congrArg Prod.snd (p.translate_lineListen n), fun p off hoff => ?others,
    fun p n => p.translate_below_listen (Nat.lt_trans n.isLt (by decide))⟩
  case listen =>
    exact ⟨s.part.listenSource n, _, exec_lineListenRead n hlive hidle, rfl, fun x => by rw [State.readFrom_mem]⟩
  case others =>
    rcases hoff with hbelow | hbeyond
    · rw [p.translate_below_listen hbelow]
    · exact p.translate_level_beyond_listen hbeyond

end Sys2Proof.Machine
end

section
/-! The memory port's arbiter (R158): what it starts in each case and the run counter after it, and then the statement about
it. -/

namespace Sys2Proof.Machine

section Arbiter

variable {h : Path} (p : Part)

theorem Path.arbitrate_busy (hbusy : h.inService ≠ none) : h.arbitrate p = h := by
  obtain ⟨service, hservice⟩ := Option.ne_none_iff_exists'.mp hbusy
  simp only [Path.arbitrate, hservice]

theorem Path.arbitrate_nothing (hpresented : h.presented = none) (hown : h.ownQueue = []) : h.arbitrate p = h := by
  cases hservice : h.inService <;> simp only [Path.arbitrate, hservice, hpresented, hown]

variable (hfree : h.inService = none)
include hfree

/-- R158, row 1. -/
theorem Path.arbitrate_forwarded {access : MasterAccess} (hpresented : h.presented = some access) (hown : h.ownQueue = []) :
    h.arbitrate p = { h with presented := none, runCounter := 0 }.startForwarded p access := by
  simp only [Path.arbitrate, hfree, hpresented, hown]

/-- R158, row 2. -/
theorem Path.arbitrate_within_limit {access : MasterAccess} {r : OwnRequest} {rest : List OwnRequest}
    (hpresented : h.presented = some access) (hown : h.ownQueue = r :: rest) (hrun : h.runCounter < 16) :
    h.arbitrate p = { h with presented := none, runCounter := h.runCounter + 1 }.startForwarded p access := by
  have hbelow : h.runCounter < Config.runLimit := hrun
  simp only [Path.arbitrate, hfree, hpresented, hown, if_pos hbelow]

/-- R158, row 3. -/
theorem Path.arbitrate_at_limit {access : MasterAccess} {r : OwnRequest} {rest : List OwnRequest}
    (hpresented : h.presented = some access) (hown : h.ownQueue = r :: rest) (hrun : h.runCounter = 16) :
    h.arbitrate p = { h with ownQueue := rest, runCounter := 0 }.startOwn r := by
  have hreached : ¬ h.runCounter < Config.runLimit := hrun.ge.not_gt
  simp only [Path.arbitrate, hfree, hpresented, hown, if_neg hreached]

/-- R158, row 4. -/
theorem Path.arbitrate_own {r : OwnRequest} {rest : List OwnRequest} (hpresented : h.presented = none)
    (hown : h.ownQueue = r :: rest) : h.arbitrate p = { h with ownQueue := rest, runCounter := 0 }.startOwn r := by
  simp only [Path.arbitrate, hfree, hpresented, hown]

end Arbiter

/-! ## The rows of RESETN -/

theorem exec_resetAssertion (s : State) :
    exec .resetAssertion s = .next { s with path := s.path.asserted, part := Part.reset } := rfl

/-- A release while RESETN is asserted (R153, R164). -/
theorem exec_resetRelease {s : State} (area : Fin 4) (h : s.inReset) :
    exec (.resetRelease area) s =
      .next { s with path := { s.path with resetAsserted := false, area := area }, part := Part.released area } := by
  obtain ⟨hasserted, -⟩ := h
  exact congrArg Host.Outcome.next (if_pos hasserted)

/-! ## The statement -/

/-- Settles O9, row by row of R158. -/
theorem arbiterChoosesByTheRunCounter : Obligations.ArbiterChoosesByTheRunCounter := by
  refine ⟨fun s => ⟨_, exec_resetAssertion s, rfl⟩,
    fun s area hreset => ⟨_, exec_resetRelease area hreset, ?released⟩,
    fun h p => ⟨Path.arbitrate_busy p, Path.arbitrate_nothing p, fun access hfree => Path.arbitrate_forwarded p hfree,
      fun access r rest hfree => Path.arbitrate_within_limit p hfree,
      fun access r rest hfree => Path.arbitrate_at_limit p hfree, fun r rest hfree => Path.arbitrate_own p hfree⟩⟩
  case released =>
    obtain ⟨-, -, -, hrun, -⟩ := hreset
    exact hrun

end Sys2Proof.Machine
end

section
/-! Accesses on the memory port: where a write is handed over and a read is served from, what a presented access, a whole
access and a completion do, the rows that are reads or writes of a window, and then the statements about them (R152, R154,
R155, R156, R160, R164). -/

namespace Sys2Proof.Machine

/-! ## The port -/

/-- The memory port is idle when it is free and nothing waits for it. -/
theorem Path.idle_iff {h : Path} : h.idle = true ↔ h.inService = none ∧ h.presented = none ∧ h.ownQueue = [] := by
  simp only [Path.idle, Bool.and_eq_true, Option.isNone_iff_eq_none, List.isEmpty_iff, and_assoc]

section Start

variable {h : Path} (p : Part) {a : Word} (d : Word) {off : Nat}

/-! ## Hand-overs (R154, R163) -/

theorem Path.handoverOf_reset (a : Word) (hreset : h.resetAsserted = true) : h.handoverOf a d = [] := by
  simp only [Path.handoverOf, hreset]

theorem Path.handoverOf_outside (hout : offsetOf h.area a = none) : h.handoverOf a d = [] := by
  cases hreset : h.resetAsserted <;> simp only [Path.handoverOf, hreset, hout]

theorem Path.handoverOf_inside (hlive : h.resetAsserted = false) (hin : offsetOf h.area a = some off) :
    h.handoverOf a d = if (snoopWindow off).isSome then [⟨off, d⟩] else [] := by
  simp only [Path.handoverOf, hlive, hin]

theorem Path.handoverOf_unsnooped (hin : offsetOf h.area a = some off) (hwindow : snoopWindow off = none) :
    h.handoverOf a d = [] := by
  cases hreset : h.resetAsserted with
  | false => rw [Path.handoverOf_inside d hreset hin, if_neg (by simp [hwindow])]
  | true => exact Path.handoverOf_reset d a hreset

theorem Path.handoverOf_snooped {window : SnoopWindow} (hlive : h.resetAsserted = false)
    (hin : offsetOf h.area a = some off) (hwindow : snoopWindow off = some window) : h.handoverOf a d = [⟨off, d⟩] := by
  rw [Path.handoverOf_inside d hlive hin, if_pos (by simp [hwindow])]

/-! ## The source of a read (R155, R163) -/

theorem Path.readSource_reset (a : Word) (hreset : h.resetAsserted = true) : h.readSource p a = (a, .unity) := by
  simp only [Path.readSource, hreset]

theorem Path.readSource_outside (hout : offsetOf h.area a = none) : h.readSource p a = (a, .unity) := by
  cases hreset : h.resetAsserted <;> simp only [Path.readSource, hreset, hout]

theorem Path.readSource_inside (hlive : h.resetAsserted = false) (hin : offsetOf h.area a = some off) :
    h.readSource p a = (addressOf h.area (p.translate off).1, (p.translate off).2) := by
  simp only [Path.readSource, hlive, hin]

/-! ## The start of a forwarded access -/

theorem Path.startForwarded_write (h : Path) (a : Word) : h.startForwarded p (.write a d) = { h with
    inService := some (.write a d), waitKept := false, handovers := h.handovers ++ h.handoverOf a d } := rfl

theorem Path.startForwarded_read {source : Word × LevelCode} (hsource : h.readSource p a = source) :
    h.startForwarded p (.read a) = { h with inService := some (.read a source.1 source.2), waitKept := false } := by
  rw [← hsource]
  rfl

end Start

/-! ## A presented access -/

section Present

variable {s : State} (access : MasterAccess)

theorem State.present_held (h : s.path.presented ≠ none) : s.present access = s :=
  if_pos (Option.isSome_iff_ne_none.mpr h)

theorem State.present_next (h : s.path.presented = none) :
    s.present access = { s with path := { s.path with presented := some access }.arbitrate s.part } :=
  if_neg (by simp [h])

theorem State.present_busy (h : s.path.presented = none) (hbusy : s.path.inService ≠ none) :
    s.present access = { s with path := { s.path with presented := some access } } := by
  rw [State.present_next access h, Path.arbitrate_busy _ (by exact hbusy)]

/-- R152, R158: on an idle port an access starts at once, and the run counter becomes 0. -/
theorem State.present_idle (hidle : s.path.idle = true) :
    s.present access = { s with path := { s.path with runCounter := 0 }.startForwarded s.part access } := by
  obtain ⟨hfree, hpresented, hown⟩ := Path.idle_iff.mp hidle
  rw [State.present_next access hpresented, Path.arbitrate_forwarded _ (by exact hfree) rfl (by exact hown)]
  simp only [← hpresented]

end Present

theorem exec_forwardedAccessPresented (access : MasterAccess) (s : State) :
    exec (.forwardedAccessPresented access) s = .next (s.present access) := rfl

/-! ## A whole access -/

section Whole

variable {s : State} (hidle : s.path.idle = true)
include hidle

theorem State.masterWrite_idle (a d : Word) : s.masterWrite a d = { s with
    mem := s.mem.write a.toNat d
    path := { s.path with runCounter := 0, handovers := s.path.handovers ++ s.path.handoverOf a d } } := if_pos hidle

/-- A write that is handed over to no block changes the path's run counter alone. -/
theorem State.masterWrite_path_unsnooped {a d : Word} (h : s.path.handoverOf a d = []) :
    (s.masterWrite a d).path = { s.path with runCounter := 0 } := by
  simp only [State.masterWrite_idle hidle, h, List.append_nil]

theorem State.masterWrite_read {a d : Word} (hwf : Memory.wf s.mem = true) (x : Nat) :
    (s.masterWrite a d).mem.read x = if x = a.toNat then d else s.mem.read x := by
  rw [State.masterWrite_idle hidle]
  exact WordStore.read_write _ x d hwf

/-- Log 28: while RESETN is asserted a row that reads returns the word at its own address. -/
theorem State.readWord_reset (off : Nat) (hreset : s.path.resetAsserted = true) :
    s.readWord off = { s with path := { s.path with
      runCounter := 0
      returned := some (addressOf s.path.area off, s.mem.read (addressOf s.path.area off).toNat) } } := by
  simp only [State.readWord, if_pos hidle, Path.readSource_reset s.part _ hreset, LevelCode.scale_unity]

end Whole

theorem exec_masterWrite (a d : Word) (s : State) : exec (.masterWrite a d) s = .next (s.masterWrite a d) := rfl

/-! ## The rows that are reads or writes of a window -/

/-- A row that is a read (R155). -/
theorem exec_wordRead {c : Instr} {off : Nat} (h : wordRead c = some off) (s : State) :
    exec c s = .next (s.readWord off) := by
  cases c with
  | lineListenRead | lineDriveRead | channelListenRead | signalOutRead => cases h; rfl
  | _ => cases h

/-- A row that is a write of a snooped window (R154). -/
theorem exec_windowWrite {c : Instr} {off : Nat} {w : Word} (h : windowWrite c = some (off, w)) (s : State) :
    ∃ act, exec c s = .next (s.snooped off w act) := by
  cases c with
  | senseWrite | signalInWrite | signalCodeInstall | generalConfigCommit | ringCadenceCommit | start | halt | clearCalls
  | rescan | snapshot | linkUp | linkDown | lineReset | channelReset | reportFlush | headerStateWrite =>
    cases h; exact ⟨_, rfl⟩
  | directoryCommit d w =>
    cases h
    have hoffset : entryOffset d 3 = 0x803 + 4 * d.val := by unfold entryOffset; omega
    exact ⟨_, by rw [← hoffset]; rfl⟩
  | profileCommit n w =>
    cases h
    have hoffset : profileOffset n 3 = 0x603 + 4 * n.val := by unfold profileOffset; omega
    exact ⟨_, by rw [← hoffset]; rfl⟩
  | channelConfigCommit k w =>
    cases h
    have hoffset : chanConfigOffset k 1 = 0x6C1 + 2 * k.val := by unfold chanConfigOffset; omega
    exact ⟨_, by rw [← hoffset]; rfl⟩
  | toneDescriptorCommit t w =>
    cases h
    have hoffset : toneOffset t 7 = 0x707 + 8 * t.val := by unfold toneOffset; omega
    exact ⟨_, by rw [← hoffset]; rfl⟩
  | pendingWordWrite offset w =>
    obtain ⟨hpending, hword⟩ := Option.ite_none_right_eq_some.mp h
    cases hword
    exact ⟨_, congrArg Host.Outcome.next (if_pos hpending)⟩
  | commandUndefined w =>
    obtain ⟨hundefined, hword⟩ := Option.ite_none_left_eq_some.mp h
    cases hword
    exact ⟨_, congrArg Host.Outcome.next (if_neg hundefined)⟩
  | _ => cases h

/-! ## Completions -/

theorem exec_portAccessComplete {s : State} {service : Service} (h : s.path.inService = some service) :
    exec .portAccessComplete s = .next (s.completeAccess service) := by
  simp only [exec, execPortAccessComplete, h]

/-! ## The statements -/

/-- Settles O10: a presented access by the port and the place of its address, a whole access by its window, and the rows that
name an offset by the port, RESETN and their block. -/
theorem forwardedAccessesAreServed : Obligations.ForwardedAccessesAreServed := by
  refine ⟨fun s access hnone hbusy =>
      ⟨_, exec_forwardedAccessPresented access s, State.present_busy access hnone hbusy, ?wait⟩,
    fun s a d hlive hidle => ?write, fun s a hlive hidle hout => ?outside, fun s a off hlive hidle hin => ?inside,
    fun s a d hwf hidle => ⟨_, exec_masterWrite a d s, State.masterWrite_read hidle hwf, State.masterWrite_part s a d,
      State.masterWrite_pending s a d, fun hout => ?wholeOutside, fun off hin hwindow => ?wholeUnsnooped,
      fun off window hlive hin hwindow => ?wholeSnooped⟩,
    fun s a d hbusy => congrArg Host.Outcome.next (State.masterWrite_busy a d hbusy), fun s c off hbusy hread => ?readWaits,
    fun s c off hreset hidle hread => ?readInReset, fun s c off w hwrite hnot => ?notTaken⟩
  case wait =>
    intro hlive
    have hreleased : s.path.resetAsserted = false := hlive
    simp [State.present_busy access hnone hbusy, Path.wait, hreleased]
  case write =>
    rw [exec_forwardedAccessPresented, State.present_idle _ hidle, Path.startForwarded_write]
    cases hplace : offsetOf s.path.area a with
    | none => rw [Path.handoverOf_outside d (by exact hplace)]
    | some off => rw [Path.handoverOf_inside d (by exact hlive) (by exact hplace)]
  case outside =>
    rw [exec_forwardedAccessPresented, State.present_idle _ hidle,
      Path.startForwarded_read _ (Path.readSource_outside _ (by exact hout))]
  case inside =>
    rw [exec_forwardedAccessPresented, State.present_idle _ hidle,
      Path.startForwarded_read _ (Path.readSource_inside _ (by exact hlive) (by exact hin))]
  case wholeOutside => exact State.masterWrite_path_unsnooped hidle (Path.handoverOf_outside d hout)
  case wholeUnsnooped => exact State.masterWrite_path_unsnooped hidle (Path.handoverOf_unsnooped d hin hwindow)
  case wholeSnooped => rw [State.masterWrite_idle hidle, Path.handoverOf_snooped d hlive hin hwindow]
  case readWaits => rw [exec_wordRead hread, State.readWord_busy off hbusy, exec_forwardedAccessPresented]
  case readInReset => exact (exec_wordRead hread s).trans (congrArg _ (State.readWord_reset hidle off hreset))
  case notTaken =>
    obtain ⟨act, hrow⟩ := exec_windowWrite hwrite s
    rw [hrow, State.snooped_waits hnot, exec_masterWrite]

/-- Settles O11, service by service. -/
theorem portCompletionServesTheAccess : Obligations.PortCompletionServesTheAccess := by
  intro s hwf
  have hstored (a d : Word) (x : Nat) : (s.mem.write a.toNat d).read x = if x = a.toNat then d else s.mem.read x :=
    WordStore.read_write _ x d hwf
  exact ⟨fun a d hservice => ⟨_, exec_portAccessComplete hservice, hstored a d, rfl, rfl, rfl⟩,
    fun a source level hservice => exec_portAccessComplete hservice,
    fun a d hservice => ⟨_, exec_portAccessComplete hservice, hstored a d, rfl, rfl, rfl⟩,
    fun a d hservice => ⟨_, exec_portAccessComplete hservice, hstored a d, rfl, rfl, rfl⟩,
    fun a hservice => exec_portAccessComplete hservice,
    fun a d who hservice => ⟨_, exec_portAccessComplete hservice, hstored a d, rfl, rfl, rfl⟩,
    fun a who hservice => exec_portAccessComplete hservice⟩

end Sys2Proof.Machine
end

section
/-! What a command can do to the machine, said once, and then the statements that every command completes and that the clock is
the strobe's and RESETN's alone (R152, R161, R162). -/

namespace Sys2Proof.Machine

/-! ## What a row can do -/

/-- `State.Serves s t`: a row that is no strobe and no change of RESETN takes `s` to `t`. -/
inductive State.Serves (s : State) : State → Prop where
  /-- What the row names does not stand (logs 1, 24). -/
  | nothing : Serves s s
  | presented (access : MasterAccess) : Serves s (s.present access)
  | completed (service : Service) (h : s.path.inService = some service) : Serves s (s.completeAccess service)
  | written (a d : Word) : Serves s (s.masterWrite a d)
  | read (off : Nat) : Serves s (s.readWord off)
  | event {act : Part → Part} (h : Part.Event s.part (act s.part)) : Serves s (s.event act)
  | snooped (off : Nat) (w : Word) {act : Part → Part} (h : Part.Event s.part (act s.part)) : Serves s (s.snooped off w act)
  | reportTaken (h : s.path.reportDone = true) :
      Serves s (State.event { s with path := { s.path with reportDone := false } } Part.wordWritten)
  | echoTaken (h : s.path.echoDone = true) :
      Serves s (State.event { s with path := { s.path with echoDone := false } } Part.echoCompleted)
  | rescanTaken (w : Word) (h : s.path.rescanDone = some w) :
      Serves s (State.event { s with path := { s.path with rescanDone := none } } (·.takeRead w))

namespace State.Serves

variable {s : State}

theorem eventIf {due : Part → Bool} {act : Part → Part} (h : due s.part = true → Part.Event s.part (act s.part)) :
    s.Serves (s.eventIf due act) := by
  unfold State.eventIf
  split
  case isTrue hdue => exact .event (h hdue)
  case isFalse => exact .nothing

/-- A command event is the write of the command word. -/
theorem command {c : Command} (operand : BitVec 8) {effect : Part → Part}
    (h : s.part.raiseSequence.modeAllows c = true → Part.Event s.part (effect s.part.raiseSequence)) :
    s.Serves (s.commandEvent c operand effect) := .snooped _ _ (Part.command_event _ _ _ _ h)

end State.Serves

/-- A row of the table that is no strobe and no change of RESETN. -/
theorem exec_serves {c : Instr} {s t : State} (he : exec c s = .next t)
    (hstrobe : ∀ rrdy rwake supw, c ≠ .frameStrobe rrdy rwake supw) (hassert : c ≠ .resetAssertion)
    (hrelease : ∀ area, c ≠ .resetRelease area) : s.Serves t := by
  cases c with
  | resetAssertion => exact absurd rfl hassert
  | resetRelease area => exact absurd rfl (hrelease area)
  | frameStrobe rrdy rwake supw => exact absurd rfl (hstrobe rrdy rwake supw)
  | forwardedAccessPresented access => cases he; exact .presented access
  | portAccessComplete =>
    cases he
    split
    case h_1 => exact .nothing
    case h_2 service hservice => exact .completed service hservice
  | masterWrite a d => cases he; exact .written a d
  | lineListenRead | lineDriveRead | channelListenRead | signalOutRead => cases he; exact .read _
  | senseWrite n w => cases he; exact .snooped _ _ (.senseWrite n w)
  | signalInWrite k w => cases he; exact .snooped _ _ (.signalIn k w)
  | signalCodeInstall x w => cases he; exact .snooped _ _ (.installCode x w)
  | directoryCommit d w => cases he; exact .snooped _ _ (.commitEntry d w)
  | profileCommit n w => cases he; exact .snooped _ _ (.commitProfile n w)
  | channelConfigCommit k w => cases he; exact .snooped _ _ (.commitChanConfig k w)
  | generalConfigCommit w => cases he; exact .snooped _ _ (.commitGeneral w)
  | toneDescriptorCommit x w => cases he; exact .snooped _ _ (.commitTone x w)
  | ringCadenceCommit w => cases he; exact .snooped _ _ (.commitCadence w)
  | headerStateWrite x w => cases he; exact .snooped _ _ (.headerWrite x w _)
  | pendingWordWrite off w =>
    cases he
    split
    case isTrue => exact .snooped _ _ (.writePending _ w)
    case isFalse => exact .nothing
  | start o => cases he; exact .command o fun hm => .start (Bool.not_eq_true' _ |>.mp hm)
  | halt o => cases he; exact .command o fun _ => .halt
  | clearCalls o => cases he; exact .command o fun hm => .clearCalls hm
  | rescan o => cases he; exact .command o fun _ => .rescan
  | snapshot o => cases he; exact .command o fun _ => .snapshot
  | linkUp o => cases he; exact .command o fun _ => .linkUp
  | linkDown o => cases he; exact .command o fun _ => .linkDown
  | lineReset o => cases he; exact .command o fun hm => .lineReset o hm
  | channelReset o => cases he; exact .command o fun _ => .channelReset o
  | reportFlush o => cases he; exact .command o fun _ => .reportFlush
  | commandUndefined w =>
    cases he
    split
    case isTrue => exact .nothing
    case isFalse =>
      refine .snooped _ _ ?_
      unfold Part.undefinedCommand
      split
      case isTrue => exact .noCommand
      case isFalse => exact .refused _ _
  | reportWordWriteComplete =>
    cases he
    split
    case isTrue hdone => exact .reportTaken hdone
    case isFalse => exact .nothing
  | echoWriteComplete =>
    cases he
    split
    case isTrue hdone => exact .echoTaken hdone
    case isFalse => exact .nothing
  | rescanReadComplete =>
    cases he
    split
    case h_1 w hdone => exact .rescanTaken w hdone
    case h_2 => exact .nothing
  | onHookMinExpiry n => cases he; exact .eventIf (.onHookMin n)
  | interDigitPauseExpiry n => cases he; exact .eventIf (.interDigitPause n)
  | offHook n => cases he; exact .eventIf fun _ => .offHook n
  | onHook n => cases he; exact .eventIf fun _ => .onHook n
  | digit n d => cases he; exact .eventIf fun _ => .digit n d
  | misdial n => cases he; exact .eventIf fun _ => .misdial n
  | firstDigitLimitExpiry n => cases he; exact .eventIf (.firstDigit n)
  | interDigitLimitExpiry n => cases he; exact .eventIf (.interDigit n)
  | hotlineDelayExpiry n => cases he; exact .eventIf (.hotline n)
  | cleardownLimitExpiry n => cases he; exact .eventIf (.cleardown n)
  | howlerTimeExpiry n => cases he; exact .eventIf (.howler n)
  | startOrigination n => cases he; exact .eventIf fun _ => .startLine n
  | clearCallsLineTeardown n => cases he; exact .eventIf (.clearLine n)
  | clearCallsChannelClear k => cases he; exact .eventIf (.clearIncoming k)
  | queueTimerExpiry n => cases he; exact .eventIf (.queueTimer n)
  | unusableTimerExpiry n => cases he; exact .eventIf (.unusableTimer n)
  | seizeLimitExpiry k => cases he; exact .eventIf (.seizeLimit k)
  | digitHoldExpiry k => cases he; exact .eventIf (.digitHold k)
  | digitGapExpiry k => cases he; exact .eventIf (.digitGap k)
  | incomingDigitLimitExpiry k => cases he; exact .eventIf (.incomingLimit k)
  | releaseGuardExpiry k => cases he; exact .eventIf (.releaseGuard k)
  | recoveryTimeExpiry k => cases he; exact .eventIf (.recovery k)
  | stallExpiry k => cases he; exact .eventIf (.stall k)
  | channelLinkUp k => cases he; exact .eventIf (.channelUp k)
  | channelLinkDown k => cases he; exact .eventIf (.channelDown k)
  | snapshotDisposal => cases he; exact .eventIf fun _ => .takeDisposal
  | ready => cases he; exact .eventIf .linkReady
  | readyLost => cases he; exact .eventIf .linkReadyLost
  | wakeEdge => cases he; exact .eventIf fun _ => .wake
  | startLimitExpiry => cases he; exact .eventIf .startLimit
  | retryHoldoffExpiry => cases he; exact .eventIf .holdoff
  | silenceExpiry => cases he; exact .eventIf .silence
  | supplyAcceptance => cases he; exact .eventIf fun _ => .acceptSupply
  | alertLimitExpiry n => cases he; exact .eventIf fun _ => .alertExpired n
  | cadenceStepEnd n => cases he; exact .eventIf fun _ => .cadence n
  | toneStepEnd n => cases he; exact .eventIf fun _ => .tone n
  | ageTimerExpiry => cases he; exact .eventIf fun _ => .ageExpired

/-! ## The commands that wait -/

@[simp] theorem State.readWord_pending (s : State) (off : Nat) : (s.readWord off).pending = s.pending := by
  unfold State.readWord
  simp only
  split
  case isTrue => rfl
  case isFalse => exact State.present_pending ..

@[simp] theorem State.completeAccess_pending (s : State) (service : Service) :
    (s.completeAccess service).pending = s.pending := by
  unfold State.completeAccess
  simp only
  split
  case h_1 | h_2 | h_3 | h_4 => rfl

theorem State.Serves.pending {s t : State} (h : s.Serves t) : t.pending = s.pending := by
  cases h with
  | nothing => rfl
  | _ => simp

/-- No command is refused, and none ends in a fault (R152). -/
theorem exec_next (c : Instr) (s : State) : ∃ t, exec c s = .next t := by
  cases c with
  | _ => exact ⟨_, rfl⟩

theorem exec_pending {c : Instr} {s t : State} (he : exec c s = .next t) : t.pending = s.pending := by
  cases c with
  | resetAssertion => cases he; rfl
  | resetRelease area => cases he; split <;> rfl
  | frameStrobe rrdy rwake supw =>
    cases he
    split
    case isTrue => rfl
    case isFalse => exact State.settle_pending s
  | _ => exact (exec_serves he nofun nofun nofun).pending

/-- Settles O2: every row has a next state, and what a row can do leaves the queue. -/
theorem everyStepCompletes : Obligations.EveryStepCompletes := by
  refine ⟨fun c s => ?completes, fun s hempty => ?idles⟩
  case completes =>
    obtain ⟨t, he⟩ := exec_next c s
    exact ⟨t, he, exec_pending he⟩
  case idles => simp only [step, hempty]

/-! ## The report clock (R162) -/

theorem Ledger.Step.clock {l l' : Ledger} (h : l.Step l') : l'.clock = l.clock := by
  cases h with
  | record r => unfold Ledger.receive; split <;> rfl
  | headWritten | lostReported | copyWritten | supplyTaken => rfl

/-- No event of a block changes the clock. -/
theorem Part.Event.settled_clock {p q : Part} (h : Part.Event p q) : q.settled.clock = p.clock :=
  h.evolved.settled.keeps (K := fun l => l.clock = p.clock) (fun hl hstep => hstep.clock.trans hl) rfl

theorem State.settle_clock (s : State) : s.settle.part.clock = s.part.clock :=
  State.settle_inv (Inv := fun p => p.clock = s.part.clock) (fun _ _ hp hpq => hpq.settled_clock.trans hp) rfl

/-- What every event of a block keeps, every such row keeps. -/
theorem State.Serves.keeps {Inv : Part → Prop} (hev : ∀ p q, Inv p → Part.Event p q → Inv q.settled) {s t : State}
    (h : s.Serves t) (hs : Inv s.part) : Inv t.part := by
  cases h with
  | nothing => exact hs
  | presented | completed | written | read => simpa using hs
  | event hact => exact State.event_inv hev hact hs
  | snooped off w hact => exact State.snooped_inv hev hact hs
  | reportTaken => exact State.event_inv hev .wordWritten hs
  | echoTaken => exact State.event_inv hev .echoCompleted hs
  | rescanTaken w => exact State.event_inv hev (.takeRead w) hs

theorem State.Serves.clock {s t : State} (h : s.Serves t) : t.part.clock = s.part.clock :=
  h.keeps (Inv := fun p => p.clock = s.part.clock) (fun _ _ hp hpq => hpq.settled_clock.trans hp) rfl

/-- R162: the clock after a strobe, whatever it found left behind. -/
theorem exec_frameStrobe_clock {s : State} (rrdy rwake supw : Bool) (h : s.live) :
    ∃ t, exec (.frameStrobe rrdy rwake supw) s = .next t ∧ t.part.clock = s.part.clock.tick :=
  ⟨_, exec_frameStrobe_live rrdy rwake supw h, congrArg Clock.tick s.settle_clock⟩

/-- Settles O6: the strobe ticks the clock once, RESETN clears it, no other row touches it, and records carry it. -/
theorem reportClockCountsMilliseconds : Obligations.ReportClockCountsMilliseconds := by
  refine ⟨fun s rrdy rwake supw hlive => exec_frameStrobe_clock rrdy rwake supw hlive,
    fun s => ⟨_, exec_resetAssertion s, rfl⟩, fun s area hreset => ⟨_, exec_resetRelease area hreset, rfl⟩,
    fun c s t hstrobe hassert hrelease he => (exec_serves he hstrobe hassert hrelease).clock,
    fun p kind subject a b tag henabled hroom => ?stamp⟩
  case stamp =>
    have hlimit : p.report.queue.length < Config.reportQueueLimit := hroom
    unfold Part.hand Part.enqueueRecord
    rw [if_pos henabled, if_pos hlimit]

end Sys2Proof.Machine
end

section
/-! RESETN: what the path is while RESETN is asserted and that every row but a release leaves it so, the release, and then the
statements about them; and the invariants of the state after reset (R153, R160, R163, R164, R170, R180). -/

namespace Sys2Proof.Machine

/-! ## The path while RESETN is asserted -/

/-- What `State.inReset` says of the path. -/
structure Path.InReset (h : Path) : Prop where
  asserted : h.resetAsserted = true
  ownQueue : h.ownQueue = []
  runCounter : h.runCounter = 0
  handovers : h.handovers = []
  reportDone : h.reportDone = false
  echoDone : h.echoDone = false
  rescanDone : h.rescanDone = none
  waitKept : h.presented = none → h.waitKept = false
  overtaken : ∀ a d who orphan, h.inService = some (.own a d who orphan) → orphan = true

theorem State.inReset_iff (s : State) : s.inReset ↔ s.part = Part.reset ∧ s.path.InReset :=
  ⟨fun ⟨hasserted, hpart, hown, hrun, hhand, hreport, hecho, hrescan, hwait, horphan⟩ =>
      ⟨hpart, hasserted, hown, hrun, hhand, hreport, hecho, hrescan, hwait, horphan⟩,
    fun ⟨hpart, hasserted, hown, hrun, hhand, hreport, hecho, hrescan, hwait, horphan⟩ =>
      ⟨hasserted, hpart, hown, hrun, hhand, hreport, hecho, hrescan, hwait, horphan⟩⟩

/-- R164: an own access in service at the assertion of RESETN is overtaken. -/
theorem Path.asserted_inReset (h : Path) : h.asserted.InReset where
  asserted := rfl
  ownQueue := rfl
  runCounter := rfl
  handovers := rfl
  reportDone := rfl
  echoDone := rfl
  rescanDone := rfl
  waitKept hnone := by
    have hnone : h.presented = none := hnone
    simp [Path.asserted, Path.wait, hnone]
  overtaken a d who orphan hservice := by
    obtain ⟨service, -, hservice⟩ := Option.map_eq_some_iff.mp hservice
    cases service <;> cases hservice
    rfl

/-- R164: the access held at the assertion keeps its WAIT. -/
theorem Path.asserted_wait (h : Path) : h.asserted.wait = h.wait := by
  simp [Path.asserted, Path.wait]

/-- R163: the access that the port is started with, at its own address. -/
def Service.unchanged : MasterAccess → Service
  | .write a d => .write a d
  | .read a => .read a a .unity

namespace Path.InReset

variable {h : Path} (hh : h.InReset) (p : Part)
include hh

/-- R163: a forwarded access is started unchanged and handed over to no block, and its WAIT falls. -/
theorem started (access : MasterAccess) : { h with presented := none, runCounter := 0 }.startForwarded p access =
    { h with presented := none, inService := some (.unchanged access), waitKept := false } := by
  cases access with
  | write a d =>
    rw [Path.startForwarded_write, Path.handoverOf_reset d a (by exact hh.asserted)]
    simp only [List.append_nil, hh.runCounter, Service.unchanged]
  | read a =>
    rw [Path.startForwarded_read p (Path.readSource_reset p a (by exact hh.asserted))]
    simp only [hh.runCounter, Service.unchanged]

theorem arbitrate_held {access : MasterAccess} (hfree : h.inService = none) (hheld : h.presented = some access) :
    h.arbitrate p = { h with presented := none, inService := some (.unchanged access), waitKept := false } :=
  (Path.arbitrate_forwarded p hfree hheld hh.ownQueue).trans (hh.started p access)

theorem arbitrate : (h.arbitrate p).InReset := by
  by_cases hfree : h.inService = none
  · cases hheld : h.presented with
    | none => rwa [Path.arbitrate_nothing p hheld hh.ownQueue]
    | some access =>
      rw [hh.arbitrate_held p hfree hheld]
      exact { hh with
        waitKept := fun _ => rfl
        overtaken := fun a d who orphan hservice => by cases access <;> cases hservice }
  · rwa [Path.arbitrate_busy p hfree]

/-- A completion that returns a word at most. -/
theorem serviceEnded (r : Option (Word × Word)) : ({ h with inService := none, returned := r } : Path).InReset :=
  { hh with overtaken := nofun }

theorem uncounted : { h with runCounter := 0 } = h := by
  simp only [← hh.runCounter]

/-- A whole access (log 3). -/
theorem whole (r : Option (Word × Word)) : ({ h with runCounter := 0, returned := r } : Path).InReset :=
  { hh with runCounter := rfl }

end Path.InReset

/-! ## Rows while RESETN is asserted -/

namespace State.inReset

variable {s : State} (h : s.inReset)
include h

theorem part : s.part = Part.reset := ((State.inReset_iff s).mp h).1

theorem path : s.path.InReset := ((State.inReset_iff s).mp h).2

/-- The path serves while the blocks stand still. -/
theorem withPath {x : Path} (hx : x.InReset) : ({ s with path := x } : State).inReset :=
  (State.inReset_iff _).mpr ⟨h.part, hx⟩

theorem present (access : MasterAccess) : (s.present access).inReset := by
  by_cases hnone : s.path.presented = none
  · rw [State.present_next access hnone]
    have hheld : ({ s.path with presented := some access } : Path).InReset := { h.path with waitKept := nofun }
    exact h.withPath (hheld.arbitrate s.part)
  · rwa [State.present_held access hnone]

theorem masterWrite_path (hidle : s.path.idle = true) (a d : Word) : (s.masterWrite a d).path = s.path :=
  (State.masterWrite_path_unsnooped hidle (Path.handoverOf_reset d a h.path.asserted)).trans h.path.uncounted

theorem masterWrite (a d : Word) : (s.masterWrite a d).inReset := by
  cases hidle : s.path.idle with
  | false => rw [State.masterWrite_busy a d hidle]; exact h.present _
  | true =>
    rw [State.inReset_iff, State.masterWrite_part, h.masterWrite_path hidle]
    exact ⟨h.part, h.path⟩

theorem readWord (off : Nat) : (s.readWord off).inReset := by
  cases hidle : s.path.idle with
  | false => rw [State.readWord_busy off hidle]; exact h.present _
  | true =>
    rw [State.readWord_reset hidle off h.path.asserted]
    exact h.withPath (h.path.whole _)

/-- R164: a completion returns a word at most, and is handed to no block. -/
theorem completeAccess_path {service : Service} (hservice : s.path.inService = some service) : ∃ r,
    (s.completeAccess service).path = { s.path with inService := none, returned := r }.arbitrate s.part := by
  cases service with
  | write a d => exact ⟨_, rfl⟩
  | read a source level => exact ⟨_, rfl⟩
  | own a d who orphan =>
    have hovertaken : orphan = true := h.path.overtaken a d who orphan hservice
    cases d <;> exact ⟨_, congrArg (Path.arbitrate · s.part) (if_pos hovertaken)⟩

theorem completeAccess {service : Service} (hservice : s.path.inService = some service) :
    (s.completeAccess service).inReset := by
  obtain ⟨r, hpath⟩ := h.completeAccess_path hservice
  rw [State.inReset_iff, State.completeAccess_part, hpath]
  exact ⟨h.part, (h.path.serviceEnded r).arbitrate s.part⟩

/-- R164: a held access is started when the access in service completes. -/
theorem completeAccess_held {service : Service} {access : MasterAccess} (hservice : s.path.inService = some service)
    (hheld : s.path.presented = some access) : (s.completeAccess service).path.presented = none ∧
      (s.completeAccess service).path.inService = some (.unchanged access) := by
  obtain ⟨r, hpath⟩ := h.completeAccess_path hservice
  rw [hpath, (h.path.serviceEnded r).arbitrate_held s.part rfl hheld]
  exact ⟨rfl, rfl⟩

/-- R163: no block takes a write. -/
theorem snooped (off : Nat) (w : Word) (act : Part → Part) : (s.snooped off w act).inReset := by
  have hnot : ¬ s.takesWrite off w := fun ⟨hlive, _⟩ => absurd (h.path.asserted.symm.trans hlive) (by decide)
  rw [State.snooped_waits hnot]
  exact h.masterWrite _ w

/-- R163: what a row can do while RESETN is asserted. No completion stands for a block then. -/
theorem serves {t : State} (ht : s.Serves t) : t.inReset := by
  cases ht with
  | nothing => exact h
  | presented access => exact h.present access
  | completed service hservice => exact h.completeAccess hservice
  | written a d => exact h.masterWrite a d
  | read off => exact h.readWord off
  | event => rwa [State.event_reset h.path.asserted]
  | snooped off w => exact h.snooped off w _
  | reportTaken hdone => exact nomatch hdone.symm.trans h.path.reportDone
  | echoTaken hdone => exact nomatch hdone.symm.trans h.path.echoDone
  | rescanTaken w hdone => exact nomatch hdone.symm.trans h.path.rescanDone

end State.inReset

theorem State.inReset_assertion (s : State) : State.inReset { s with path := s.path.asserted, part := Part.reset } :=
  (State.inReset_iff _).mpr ⟨rfl, s.path.asserted_inReset⟩

theorem exec_inReset {s t : State} {c : Instr} (h : s.inReset) (hrelease : ∀ area, c ≠ .resetRelease area)
    (he : exec c s = .next t) : t.inReset := by
  cases c with
  | resetAssertion => cases he; exact s.inReset_assertion
  | frameStrobe rrdy rwake supw =>
    cases (exec_frameStrobe_reset rrdy rwake supw h.path.asserted).symm.trans he
    exact h
  | _ => exact h.serves (exec_serves he nofun nofun hrelease)

/-- R163: on the free port an access is started unchanged, and nothing else changes. -/
theorem State.inReset.present_free {s : State} (h : s.inReset) (access : MasterAccess) (hfree : s.path.inService = none)
    (hnone : s.path.presented = none) :
    s.present access = { s with path := { s.path with inService := some (.unchanged access) } } := by
  have hidle : s.path.idle = true := Path.idle_iff.mpr ⟨hfree, hnone, h.path.ownQueue⟩
  have hstarted := h.path.started s.part access
  simp only [← hnone, ← h.path.waitKept hnone] at hstarted
  rw [State.present_idle access hidle, hstarted]

/-- R160: an access presented while RESETN is asserted shows no WAIT. -/
theorem State.inReset.wait_of_none {s : State} (h : s.inReset) (hnone : s.path.presented = none)
    (presented : Option MasterAccess) : ({ s.path with presented := presented } : Path).wait = false := by
  simp [Path.wait, h.path.asserted, h.path.waitKept hnone]

/-! ## The statements -/

/-- Settles O4: the assertion brings the machine into reset, every row but a release leaves it there, and the port serves
accesses as they are. -/
theorem assertedResetHoldsTheBlocks : Obligations.AssertedResetHoldsTheBlocks := by
  refine ⟨fun s => ⟨_, exec_resetAssertion s, s.inReset_assertion, rfl, rfl, rfl, s.path.asserted_wait⟩,
    fun s access hreset hnone hbusy => ⟨_, exec_forwardedAccessPresented access s, ?waits⟩,
    fun s c hreset hrelease => ?everyRow, fun s a d hreset hfree hnone => ⟨?write, ?read⟩,
    fun s service access hreset hservice hheld =>
      ⟨_, exec_portAccessComplete hservice, hreset.completeAccess hservice, ?held⟩,
    fun s a d hreset hidle hwf => ⟨_, exec_masterWrite a d s, State.masterWrite_read hidle hwf,
      hreset.masterWrite_path hidle a d, State.masterWrite_part s a d, State.masterWrite_pending s a d⟩,
    fun s rrdy rwake supw hreset => exec_frameStrobe_reset rrdy rwake supw hreset.path.asserted⟩
  case waits =>
    rw [State.present_busy access hnone hbusy]
    exact ⟨rfl, hreset.wait_of_none hnone _⟩
  case everyRow =>
    obtain ⟨t, he⟩ := exec_next c s
    exact ⟨t, he, exec_inReset hreset hrelease he⟩
  case write => exact congrArg Host.Outcome.next (hreset.present_free (.write a d) hfree hnone)
  case read => exact congrArg Host.Outcome.next (hreset.present_free (.read a) hfree hnone)
  case held =>
    obtain ⟨hnone, hstarted⟩ := hreset.completeAccess_held hservice hheld
    refine ⟨hnone, by simp [Path.wait, hnone], hstarted.trans ?_⟩
    cases access <;> rfl

/-- Settles O5: the release leaves the blocks' reset values beside the one record. -/
theorem releaseSamplesStrapsAndReportsRestart : Obligations.ReleaseSamplesStrapsAndReportsRestart := fun _ area hreset =>
  ⟨_, exec_resetRelease area hreset, rfl, rfl, rfl, rfl, Record.restart area, rfl, rfl, rfl, rfl, rfl⟩

/-! ## The state after reset -/

theorem State.reset_haltedAtRest : State.reset.haltedAtRest := fun _ => by
  refine ⟨fun n => ⟨.inr ?_, State.reset_waiter n, State.reset_slot n⟩, fun k => ⟨?_, ?_⟩, rfl, rfl, rfl⟩
  · rw [State.reset_line]; rfl
  · rw [State.reset_chan]; rfl
  · rw [State.reset_chan]; rfl

/-- Settles O60: what the release leaves is the reset part with RESTART in the queue. -/
theorem invariantsHoldAtReset : Obligations.InvariantsHoldAtReset :=
  ⟨⟨rfl, rfl⟩, (State.bounded_iff _).mpr ⟨Nat.zero_le _, Part.released_bounded 0, rfl⟩, State.reset_haltedAtRest,
    (State.tablesConsistent_iff _).mpr (Part.reset_consistent.congr rfl)⟩

end Sys2Proof.Machine
end

section
/-! What a frame strobe does to the timers, and then the statement about it (R161; R6, R9, R18, R21, R72, R73, R85, R89, R119,
R121, R123, R140, R184). -/

namespace Sys2Proof.Machine

/-! ## One timer -/

theorem Timer.tick_limit {t : Timer} (h : t.running = true) (limit : Nat) :
    t.tick (some limit) = ⟨true, t.count + 1, t.due || decide (limit ≤ t.count + 1)⟩ := by
  simp only [Timer.tick, h, if_true]

/-- A timer without a limit is not marked. -/
theorem Timer.tick_unlimited {t : Timer} (h : t.running = true) : t.tick none = ⟨true, t.count + 1, t.due⟩ := by
  simp only [Timer.tick, h, if_true, Bool.or_false]

theorem Timer.tick_stopped {t : Timer} (h : t.running = false) (limit : Option Nat) : t.tick limit = t :=
  if_neg (by simp [h])

/-! ## The timers of each block -/

section Strobe

variable (p : Part) (rrdy rwake supw : Bool)

theorem Part.strobe_supervisor (n : Line) : (p.strobe rrdy rwake supw).sup[n] = p.sup[n].tick p.gen := by
  simp only [Part.strobe, Fin.getElem_fin, Vector.getElem_ofFn]

theorem Part.strobe_line (n : Line) : (p.strobe rrdy rwake supw).lines[n] = p.lines[n].tick p.gen := by
  simp only [Part.strobe, Fin.getElem_fin, Vector.getElem_ofFn]

theorem Part.strobe_waiter (n : Line) :
    (p.strobe rrdy rwake supw).alloc.waiters[n] = (p.alloc.waiters[n]).map (·.tick p.gen) := by
  simp only [Part.strobe, Fin.getElem_fin, Vector.getElem_ofFn]

theorem Part.strobe_chan (k : Chan) : (p.strobe rrdy rwake supw).chans[k] = p.chans[k].tick p.gen := by
  simp only [Part.strobe, Fin.getElem_fin, Vector.getElem_ofFn]

theorem Part.strobe_alert (n : Line) :
    (p.strobe rrdy rwake supw).ring.alert[n] = p.ring.alert[n].tick (seconds p.gen.alertLimit) := by
  simp only [Part.strobe, Fin.getElem_fin, Vector.getElem_ofFn]

/-- R161: what is no timer, position, sample or clock. -/
theorem Part.strobe_frame : let q := p.strobe rrdy rwake supw
    q.supply.warning = p.supply.warning ∧ q.outbox = p.outbox ∧ q.alloc.occupancy = p.alloc.occupancy ∧
      q.alloc.pointers = p.alloc.pointers ∧ q.ring.queue = p.ring.queue ∧ q.directory = p.directory ∧ q.codes = p.codes ∧
      q.copies = p.copies ∧ q.gen = p.gen ∧ q.cmd = p.cmd ∧ q.tone.descriptors = p.tone.descriptors ∧
      q.tone.cadence = p.tone.cadence := by
  unfold Part.strobe
  exact ⟨rfl, rfl, rfl, rfl, rfl, rfl, rfl, rfl, rfl, rfl, rfl, rfl⟩

end Strobe

/-- R21: the seconds of the limit that a line's timer runs against. -/
theorem LineLimit.frames_eq (limit : LineLimit) (g : GenConfig) : limit.frames g = seconds (match limit with
    | .firstDigit => g.firstDigitLimit
    | .interDigit => g.interDigitLimit
    | .hotlineDelay seconds => seconds
    | .cleardown => g.cleardownLimit
    | .howler => g.howlerTime) := by
  cases limit <;> rfl

/-! ## The statement -/

/-- Settles O7: one timer by whether it runs and has a limit, and then the blocks' timers, each against its limit in force. -/
theorem strobeCountsEveryTimer : Obligations.StrobeCountsEveryTimer := by
  refine ⟨fun t limit hruns => ⟨Timer.tick_limit hruns limit, Timer.tick_unlimited hruns⟩,
    fun t limit hstopped => Timer.tick_stopped hstopped limit, fun s rrdy rwake supw hready =>
    ⟨_, exec_frameStrobe_ready rrdy rwake supw hready, rfl, rfl, rfl, fun n => ?supervisor,
      fun n => ?line, fun n hnone => ?noEntry, fun n e hentry => ?entry, fun k => ?chan,
      fun n => s.part.strobe_alert rrdy rwake supw n, rfl, ?link,
      s.part.strobe_frame rrdy rwake supw⟩⟩
  case supervisor =>
    rw [Part.strobe_supervisor, Supervisor.tick]
    rfl
  case link => rfl
  case line =>
    rw [Part.strobe_line, LineRecord.tick, LineLimit.frames_eq]
    rfl
  case noEntry => exact (Part.strobe_waiter ..).trans (congrArg _ hnone)
  case entry => exact (Part.strobe_waiter ..).trans (congrArg _ hentry)
  case chan =>
    rw [Part.strobe_chan, ChanRecord.tick, ChanRecord.limit]
    rfl

end Sys2Proof.Machine
end

section
/-! HALT: what each of its steps leaves in every block, and how it ends a long command (R41, R76, R112, R126, R132, R174,
R176 to R178). -/

namespace Sys2Proof.Machine

/-! ## A step taken for every line or channel -/

section Each

variable {α : Type} {m : Nat} {f : Part → Fin m → Part} {get : Part → Fin m → α} {g : α → α}
  (hself : ∀ p i, get (f p i) i = g (get p i)) (hne : ∀ p {i j}, j ≠ i → get (f p i) j = get p j)
include hself hne

theorem foldl_each {l : List (Fin m)} (hl : l.Nodup) (p : Part) (i : Fin m) :
    get (l.foldl f p) i = if i ∈ l then g (get p i) else get p i := by
  induction l generalizing p with
  | nil => rfl
  | cons j rest ih =>
    obtain ⟨hj, hrest⟩ := List.nodup_cons.mp hl
    rw [List.foldl_cons, ih hrest]
    by_cases hij : i = j
    · subst hij
      rw [if_neg hj, if_pos List.mem_cons_self, hself]
    · rw [hne p hij]
      exact if_congr (List.mem_cons.trans (or_iff_right hij)).symm rfl rfl

/-- A fold over all indices, each step of which changes what is read at its own index alone. -/
theorem foldl_finRange_each (p : Part) (i : Fin m) : get ((List.finRange m).foldl f p) i = g (get p i) := by
  rw [foldl_each hself hne (List.nodup_finRange m), if_pos (List.mem_finRange i)]

end Each

/-! ## The command unit while a command ends (R172) -/

section CommandUnit

variable (p : Part)

/-- A record of a snapshot may be disposed of at once; nothing else of the command unit changes. -/
theorem Part.hand_cmd_disposals (kind : RecordKind) (x : Subject) (a b : Word) (tag : SnapshotTag) :
    (p.hand kind x a b tag).cmd = { p.cmd with disposals := (p.hand kind x a b tag).cmd.disposals } := by
  unfold Part.hand Part.enqueueRecord
  split
  · split <;> rfl
  · rfl

@[simp] theorem Part.hand_long (kind : RecordKind) (x : Subject) (a b : Word) (tag : SnapshotTag) :
    (p.hand kind x a b tag).cmd.long = p.cmd.long := by rw [Part.hand_cmd_disposals]

@[simp] theorem Part.requestEcho_long (w : Word) : (p.requestEcho w).cmd.long = p.cmd.long := by
  unfold Part.requestEcho
  split <;> rfl

@[simp] theorem Part.commandEnded_long (code : BitVec 8) (sequence : BitVec 4) (aborted : Bool) :
    (p.commandEnded code sequence aborted).cmd.long = p.cmd.long := by
  rw [Part.commandEnded, Part.requestEcho_long, Part.hand_long]

theorem Part.takeBuffer_cmd : p.takeBuffer.cmd = p.cmd := by
  unfold Part.takeBuffer
  split
  · split <;> rfl
  · rfl

theorem Part.beginRecord_cmd : p.beginRecord.cmd = p.cmd := by
  unfold Part.beginRecord
  split
  · split <;> rfl
  · rfl

variable {p}

/-- R176: only CLEAR-CALLS is completed by the end of an event. -/
theorem Part.judgeClearCalls_idle (h : p.cmd.long = .none) : p.judgeClearCalls = p := by
  have hover : p.clearCallsOver = false := by rw [Part.clearCallsOver, h]
  rw [Part.judgeClearCalls, hover]
  exact if_neg Bool.false_ne_true

theorem Part.settled_long (h : p.cmd.long = .none) : p.settled.cmd.long = .none := by
  show p.judgeClearCalls.takeBuffer.beginRecord.cmd.long = .none
  rw [Part.judgeClearCalls_idle h, Part.beginRecord_cmd, Part.takeBuffer_cmd, h]

end CommandUnit

/-! ## The end of a long command (R176 to R178) -/

section AbortLong

variable (p : Part)

theorem Part.abortLong_long : p.abortLong.cmd.long = .none := by
  unfold Part.abortLong
  split
  · assumption
  · rw [Part.commandEnded_long, Part.setLong_long]
  · rw [Part.commandEnded_long]
  · rw [Part.commandEnded_long, Part.handSnapshotEnd, Part.hand_long]

variable {p} in
theorem Part.abortLong_none (h : p.cmd.long = .none) : p.abortLong = p := by
  simp only [Part.abortLong, h]

/-- The command unit and the report writer alone take part in the end of a long command. -/
theorem Part.abortLong_frame : p.abortLong.lines = p.lines ∧ p.abortLong.chans = p.chans ∧ p.abortLong.alloc = p.alloc ∧
    p.abortLong.link = p.link ∧ p.abortLong.cmd.sequence = p.cmd.sequence := by
  have hsequence (q : Part) (code : BitVec 8) (n : BitVec 4) (aborted : Bool) :
      (q.commandEnded code n aborted).cmd.sequence = q.cmd.sequence := by
    rw [← Part.body_sequence, Part.commandEnded_body, Part.body_sequence]
  unfold Part.abortLong
  split
  · exact ⟨rfl, rfl, rfl, rfl, rfl⟩
  · simp [hsequence, Part.setLong]
  · simp [hsequence]
  · have hend (q : Part) : (q.handSnapshotEnd true).cmd.sequence = q.cmd.sequence := by
      rw [Part.handSnapshotEnd, Part.hand_cmd_disposals]
    simp only [hsequence, hend]
    simp [Part.handSnapshotEnd]

end AbortLong

/-! ## The channels (R112) -/

/-- The channel record after HALT. -/
def ChanRecord.halted (c : ChanRecord) : ChanRecord :=
  if c.state = .offline then { c with linkChanges := [] } else { c with linkChanges := [] }.enter .offline none

section Channel

variable (c : ChanRecord)

theorem ChanRecord.halted_linkChanges : c.halted.linkChanges = [] := by
  unfold ChanRecord.halted
  split
  · rfl
  · exact ({ c with linkChanges := [] } : ChanRecord).enter_always .offline none |>.2.1

theorem ChanRecord.halted_config : c.halted.config = c.config := by
  unfold ChanRecord.halted
  split
  · rfl
  · exact ({ c with linkChanges := [] } : ChanRecord).enter_always .offline none |>.1

theorem ChanRecord.destination_offline : c.destination .offline = .offline := by
  rw [ChanRecord.destination]
  exact ite_self _

theorem ChanRecord.halted_state : c.halted.state = .offline := by
  unfold ChanRecord.halted
  split
  · assumption
  · rw [ChanRecord.enter_state, ChanRecord.destination_offline]

end Channel

section HaltChan

variable (p : Part) (k : Chan)

theorem Part.haltChan_cases {motive : Part → Prop}
    (offline : p.chans[k].state = .offline → motive (p.setLinkChanges k []))
    (enters : p.chans[k].state ≠ .offline → motive ((p.setLinkChanges k []).enterChan k .offline)) :
    motive (p.haltChan k) := by
  have hst : (p.setLinkChanges k []).chans[k].state = p.chans[k].state := by
    rw [Part.setLinkChanges, Part.setChan_chans, getElem_set_fin_same]
  unfold Part.haltChan
  simp only [hst]
  split
  · exact offline ‹_›
  · exact enters ‹_›

theorem Part.setLinkChanges_self (changes : List LinkChange) :
    (p.setLinkChanges k changes).chans[k] = { p.chans[k] with linkChanges := changes } := getElem_set_fin_same ..

theorem Part.haltChan_self : (p.haltChan k).chans[k] = p.chans[k].halted := by
  refine Part.haltChan_cases p k (motive := fun q => q.chans[k] = _) (fun h => ?_) (fun h => ?_)
  · rw [Part.setLinkChanges_self, ChanRecord.halted, if_pos h]
  · rw [Part.enterChan_self, Part.setLinkChanges_self, ChanRecord.halted, if_neg h]

variable {k} in
theorem Part.haltChan_ne {j : Chan} (hj : j ≠ k) : (p.haltChan k).chans[j] = p.chans[j] := by
  have hset : (p.setLinkChanges k []).chans[j] = p.chans[j] := by
    rw [Part.setLinkChanges, Part.setChan_chans, getElem_set_fin, if_neg hj.symm]
  exact Part.haltChan_cases p k (motive := fun q => q.chans[j] = _) (fun _ => hset)
    (fun _ => (Part.enterChan_ne _ _ _ hj).trans hset)

/-- What HALT of a channel leaves of the other blocks. -/
theorem Part.haltChan_frame : (p.haltChan k).lines = p.lines ∧ (p.haltChan k).cmd = p.cmd ∧
    (p.haltChan k).alloc.pointers = p.alloc.pointers :=
  Part.haltChan_cases p k (motive := fun q => q.lines = p.lines ∧ q.cmd = p.cmd ∧ q.alloc.pointers = p.alloc.pointers)
    (fun _ => ⟨rfl, rfl, rfl⟩)
    (fun _ => ⟨Part.enterChan_lines .., Part.enterChan_cmd .., Part.enterChan_alloc_pointers ..⟩)

variable {p} in
/-- With the link down the silence timer stands, and the entry of a channel does not touch the link. -/
theorem Part.haltChan_link (hdown : p.link.state ≠ .up) (hsilence : p.link.silence = .stopped) :
    (p.haltChan k).link = p.link := by
  refine Part.haltChan_cases p k (motive := fun q => q.link = p.link) (fun _ => rfl) (fun _ => ?_)
  have hstays : ((p.setLinkChanges k []).enterChan k .offline).silenceHolds = false :=
    Part.silenceHolds_linkDown (by rw [Part.enterChan_link]; exact hdown)
  rw [Part.enterChan_link, hstays, if_neg Bool.false_ne_true, Part.setLinkChanges_link, ← hsilence]

end HaltChan

/-! ## The lines (R41) -/

/-- The line record after HALT. -/
def LineRecord.halted (l : LineRecord) : LineRecord :=
  if l.state = .outOfService ∨ l.state = .idle then l else l.enter .idle none false

section HaltLine

variable (p : Part) (n : Line)

theorem Part.haltLine_self : (p.haltLine n).lines[n] = p.lines[n].halted := by
  unfold Part.haltLine LineRecord.halted
  split
  · rfl
  · exact Part.enterLine_self ..

variable {n} in
theorem Part.haltLine_ne {m : Line} (hm : m ≠ n) : (p.haltLine n).lines[m] = p.lines[m] := by
  unfold Part.haltLine
  split
  · rfl
  · exact Part.enterLine_ne _ _ _ _ hm

theorem Part.haltLine_frame : (p.haltLine n).chans = p.chans ∧ (p.haltLine n).cmd = p.cmd ∧
    (p.haltLine n).alloc = p.alloc ∧ (p.haltLine n).link = p.link := by
  unfold Part.haltLine
  split
  · exact ⟨rfl, rfl, rfl, rfl⟩
  · exact ⟨Part.enterLine_chans .., Part.enterLine_cmd .., Part.enterLine_alloc .., Part.enterLine_link ..⟩

end HaltLine

/-! ## The whole command (R174) -/

/-- The link record after HALT (R126). -/
def Link.halted (l : Link) : Link := { l.enter .off none with wakeEdge := false }

theorem Part.linkAtHalt_cases (p : Part) {motive : Part → Prop}
    (off : motive { p with link := p.link.halted })
    (leaves : motive ({ p with link := p.link.halted }.handLinkState .halt)) : motive p.linkAtHalt := by
  unfold Part.linkAtHalt
  simp only
  split
  · exact off
  · exact leaves

/-- The part after the first steps of HALT: the long command ended, the mode HALTED, the queue empty, the link OFF. -/
def Part.haltBegun (p : Part) : Part :=
  { p.abortLong with cmd := { p.abortLong.cmd with mode := .halted, starting := [] } }.emptyQueue.linkAtHalt

section Halt

variable (p : Part)

theorem Part.haltBegun_frame : p.haltBegun.lines = p.lines ∧ p.haltBegun.chans = p.chans ∧
    p.haltBegun.link = p.link.halted ∧ p.haltBegun.alloc.pointers = p.alloc.pointers ∧
    p.haltBegun.cmd = { p.abortLong.cmd with mode := .halted, starting := [] } := by
  obtain ⟨hlines, hchans, halloc, hlink, -⟩ := p.abortLong_frame
  have hpointers : p.abortLong.alloc.pointers = p.alloc.pointers := congrArg Allocator.pointers halloc
  have hhalted : p.abortLong.link.halted = p.link.halted := congrArg Link.halted hlink
  refine Part.linkAtHalt_cases _ (motive := fun q => q.lines = p.lines ∧ q.chans = p.chans ∧ q.link = p.link.halted ∧
    q.alloc.pointers = p.alloc.pointers ∧ q.cmd = { p.abortLong.cmd with mode := .halted, starting := [] })
    ⟨hlines, hchans, hhalted, hpointers, rfl⟩ ?_
  rw [Part.handLinkState, Part.hand_lines, Part.hand_chans, Part.hand_link, Part.hand_alloc, Part.hand_cmd]
  exact ⟨hlines, hchans, hhalted, hpointers, rfl⟩

/-- HALT of some channels leaves what HALT of one leaves. -/
theorem Part.haltChans_frame (l : List Chan) : (l.foldl Part.haltChan p).lines = p.lines ∧
    (l.foldl Part.haltChan p).cmd = p.cmd ∧ (l.foldl Part.haltChan p).alloc.pointers = p.alloc.pointers :=
  ⟨foldl_keeps (g := Part.lines) (fun p k => (p.haltChan_frame k).1) l p,
    foldl_keeps (g := Part.cmd) (fun p k => (p.haltChan_frame k).2.1) l p,
    foldl_keeps (g := fun q : Part => q.alloc.pointers) (fun p k => (p.haltChan_frame k).2.2) l p⟩

theorem Part.haltLines_frame (l : List Line) : (l.foldl Part.haltLine p).chans = p.chans ∧
    (l.foldl Part.haltLine p).cmd = p.cmd ∧ (l.foldl Part.haltLine p).alloc = p.alloc ∧
    (l.foldl Part.haltLine p).link = p.link :=
  ⟨foldl_keeps (g := Part.chans) (fun p n => (p.haltLine_frame n).1) l p,
    foldl_keeps (g := Part.cmd) (fun p n => (p.haltLine_frame n).2.1) l p,
    foldl_keeps (g := Part.alloc) (fun p n => (p.haltLine_frame n).2.2.1) l p,
    foldl_keeps (g := Part.link) (fun p n => (p.haltLine_frame n).2.2.2) l p⟩

variable {p} in
theorem Part.haltChans_link (hdown : p.link.state ≠ .up) (hsilence : p.link.silence = .stopped) (l : List Chan) :
    (l.foldl Part.haltChan p).link = p.link := by
  induction l generalizing p with
  | nil => rfl
  | cons k rest ih =>
    have hlink := Part.haltChan_link k hdown hsilence
    rw [List.foldl_cons, ih (by rwa [hlink]) (by rwa [hlink]), hlink]

/-- The part after HALT of the channels and the lines. -/
def Part.haltedAll (p : Part) : Part :=
  (List.finRange 48).foldl Part.haltLine ((List.finRange 12).foldl Part.haltChan p.haltBegun)

theorem Part.halt_eq : p.halt = p.haltedAll.emptyQueue.emptyRing := rfl

theorem Part.haltedAll_line (n : Line) : p.haltedAll.lines[n] = p.lines[n].halted := by
  obtain ⟨hbegun, -⟩ := p.haltBegun_frame
  obtain ⟨hchans, -⟩ := p.haltBegun.haltChans_frame (List.finRange 12)
  rw [← hbegun, ← hchans, Part.haltedAll]
  exact foldl_finRange_each (get := fun q n => q.lines[n]) Part.haltLine_self Part.haltLine_ne _ n

theorem Part.haltedAll_chan (k : Chan) : p.haltedAll.chans[k] = p.chans[k].halted := by
  obtain ⟨-, hbegun, -⟩ := p.haltBegun_frame
  obtain ⟨hlines, -⟩ := ((List.finRange 12).foldl Part.haltChan p.haltBegun).haltLines_frame (List.finRange 48)
  rw [Part.haltedAll, hlines, ← hbegun]
  exact foldl_finRange_each (get := fun q k => q.chans[k]) Part.haltChan_self Part.haltChan_ne _ k

theorem Part.haltedAll_frame : p.haltedAll.link = p.link.halted ∧
    p.haltedAll.cmd = { p.abortLong.cmd with mode := .halted, starting := [] } ∧
    p.haltedAll.alloc.pointers = p.alloc.pointers := by
  obtain ⟨-, -, hlink, hpointers, hcmd⟩ := p.haltBegun_frame
  obtain ⟨-, hcmdChans, hpointersChans⟩ := p.haltBegun.haltChans_frame (List.finRange 12)
  obtain ⟨-, hcmdLines, halloc, hlinkLines⟩ :=
    ((List.finRange 12).foldl Part.haltChan p.haltBegun).haltLines_frame (List.finRange 48)
  have hchans : ((List.finRange 12).foldl Part.haltChan p.haltBegun).link = p.haltBegun.link :=
    Part.haltChans_link (by rw [hlink]; exact nofun) (by rw [hlink]; rfl) _
  rw [Part.haltedAll, hlinkLines, hcmdLines, halloc, hchans, hcmdChans, hpointersChans]
  exact ⟨hlink, hcmd, hpointers⟩

/-- Emptying the queue and the ring leaves the other blocks. -/
theorem Part.emptied_frame : p.emptyQueue.emptyRing.lines = p.lines ∧ p.emptyQueue.emptyRing.chans = p.chans ∧
    p.emptyQueue.emptyRing.link = p.link ∧ p.emptyQueue.emptyRing.cmd = p.cmd ∧
    p.emptyQueue.emptyRing.alloc =
      { waiters := Vector.replicate 48 none, occupancy := [], pointers := p.alloc.pointers } :=
  ⟨rfl, rfl, rfl, rfl, rfl⟩

theorem Part.halt_line (n : Line) : p.halt.lines[n] = p.lines[n].halted := by
  obtain ⟨hlines, -⟩ := p.haltedAll.emptied_frame
  rw [Part.halt_eq, hlines, Part.haltedAll_line]

theorem Part.halt_chan (k : Chan) : p.halt.chans[k] = p.chans[k].halted := by
  obtain ⟨-, hchans, -⟩ := p.haltedAll.emptied_frame
  rw [Part.halt_eq, hchans, Part.haltedAll_chan]

theorem Part.halt_link : p.halt.link = p.link.halted := by
  obtain ⟨-, -, hlink, -⟩ := p.haltedAll.emptied_frame
  obtain ⟨hall, -⟩ := p.haltedAll_frame
  rw [Part.halt_eq, hlink, hall]

theorem Part.halt_cmd : p.halt.cmd = { p.abortLong.cmd with mode := .halted, starting := [] } := by
  obtain ⟨-, -, -, hcmd, -⟩ := p.haltedAll.emptied_frame
  obtain ⟨-, hall, -⟩ := p.haltedAll_frame
  rw [Part.halt_eq, hcmd, hall]

/-- R76: the queue is emptied and the grant pointers are kept. -/
theorem Part.halt_alloc : p.halt.alloc =
    { waiters := Vector.replicate 48 none, occupancy := [], pointers := p.alloc.pointers } := by
  obtain ⟨-, -, -, -, halloc⟩ := p.haltedAll.emptied_frame
  obtain ⟨-, -, hall⟩ := p.haltedAll_frame
  rw [Part.halt_eq, halloc, hall]

theorem Part.emptyRing_ring : p.emptyRing.ring = Ring.reset := rfl

theorem Part.halt_ring : p.halt.ring = Ring.reset := by rw [Part.halt_eq, Part.emptyRing_ring]

/-- R174: HALT changes the mode, and nothing else that call processing leaves alone. -/
theorem Part.halt_fixed : p.halt.fixed = { p.fixed with mode := .halted } := by
  rw [Part.halt_eq, Part.emptyRing_fixed, Part.emptyQueue_fixed, Part.haltedAll,
    foldl_keeps (g := Part.fixed) Part.haltLine_fixed, foldl_keeps (g := Part.fixed) Part.haltChan_fixed,
    Part.haltBegun, Part.linkAtHalt_fixed, Part.emptyQueue_fixed, ← Part.abortLong_fixed p]
  rfl

end Halt

/-! ## The rows -/

section Accepted

variable {p : Part}

theorem Part.raiseSequence_modeAllows (p : Part) (c : Command) : p.raiseSequence.modeAllows c = p.modeAllows c := by
  cases c <;> rfl

/-- Table 10-5: HALT is accepted in RUNNING, and in either mode while a long command runs (log 9). -/
theorem Part.command_halt (h : p.cmd.mode = .running ∨ p.cmd.long ≠ .none) (operand : BitVec 8) (effect : Part → Part) :
    p.command .halt operand effect = effect p.raiseSequence := by
  have hallows : p.raiseSequence.modeAllows .halt = true := by
    rw [Part.raiseSequence_modeAllows]
    exact Bool.or_eq_true_iff.mpr (h.imp Part.isRunning_running p.longInProgress_iff.mpr)
  have hnone : p.raiseSequence.commandRefusal .halt operand = none := by
    simp [Part.commandRefusal, hallows, operandOk]
  simp only [Part.command, hnone]

end Accepted

/-- The part at the end of an accepted HALT: the blocks are as HALT left them. -/
theorem Part.short_halt_settled (p : Part) : let q := (p.short .halt Part.halt).settled
    q.lines = p.halt.lines ∧ q.chans = p.halt.chans ∧ q.link = p.halt.link ∧ q.alloc = p.halt.alloc ∧
      q.ring = p.halt.ring ∧ q.fixed = p.halt.fixed := by
  intro q
  have hbody : q.body = p.halt.body := by rw [Part.settled_body, Part.short, Part.commandEnded_body]
  obtain ⟨-, hlines, -, halloc, hchans, -, hlink, -, hring, -⟩ := Part.fields_of_body hbody
  exact ⟨hlines, hchans, hlink, halloc, hring, Part.fixed_of_body hbody⟩

/-- The command unit at the end of an accepted HALT. -/
theorem Part.short_halt_cmd (p : Part) : let q := (p.short .halt Part.halt).settled
    q.cmd.mode = .halted ∧ q.cmd.long = .none ∧ q.cmd.starting = [] ∧ q.cmd.sequence = p.cmd.sequence := by
  intro q
  have hbody : q.body = p.halt.body := by rw [Part.settled_body, Part.short, Part.commandEnded_body]
  have hlong : p.halt.cmd.long = .none := by rw [Part.halt_cmd, Part.abortLong_long]
  obtain ⟨-, -, -, -, hsequence⟩ := p.abortLong_frame
  refine ⟨?mode, Part.settled_long ((Part.commandEnded_long ..).trans hlong), ?starting, ?count⟩
  case mode => rw [← q.body_mode, hbody, Part.body_mode, Part.halt_cmd]
  case starting => rw [← q.body_starting, hbody, Part.body_starting, Part.halt_cmd]
  case count => rw [← q.body_sequence, hbody, Part.body_sequence, Part.halt_cmd, hsequence]

theorem exec_halt_accepted {s : State} {operand : BitVec 8} (h : s.takesWrite 0x748 (Command.halt.code ++ operand))
    (haccepts : s.part.cmd.mode = .running ∨ s.part.cmd.long ≠ .none) :
    exec (.halt operand) s = .next ((s.served 0x748 (Command.halt.code ++ operand)).after
      (s.part.raiseSequence.short .halt Part.halt)) := by
  have hrow := exec_command h
  rw [Part.command_halt haccepts] at hrow
  exact hrow

theorem State.served_pending (s : State) (off : Nat) (w : Word) : (s.served off w).pending = s.pending := by
  unfold State.served
  split <;> rfl

/-! ## The statement -/

section Record

variable {l : LineRecord}

theorem LineRecord.halted_outOfService (h : l.state = .outOfService) : l.halted = l := if_pos (.inl h)

theorem LineRecord.halted_inService (h : l.state ≠ .outOfService) : l.halted.state = .idle := by
  unfold LineRecord.halted
  split
  · rename_i hst
    exact hst.resolve_left h
  · exact LineRecord.enter_state ..

/-- R19, R41: a line that was not IDLE enters IDLE. -/
theorem LineRecord.halted_enters (hout : l.state ≠ .outOfService) (hidle : l.state ≠ .idle) :
    l.halted = l.enter .idle none false := if_neg (not_or.mpr ⟨hout, hidle⟩)

end Record

/-- Settles O50: the blocks as HALT leaves them, one by one, and the end of a long command by its kind. -/
theorem haltStopsEverything : Obligations.HaltStopsEverything := by
  refine ⟨fun s operand htakes haccepts => ?halt, fun p => ⟨?twice, Part.abortLong_none, fun lines chans hlong => ?clearCalls,
    fun next hlong => ?rescan, fun next hlong => ?snapshot⟩⟩
  case twice => rw [Part.halt, Part.halt, Part.abortLong_none p.abortLong_long]
  case clearCalls =>
    simp only [Part.abortLong, hlong]
    rfl
  case rescan =>
    simp only [Part.abortLong, hlong]
    rfl
  case snapshot =>
    simp only [Part.abortLong, hlong]
    rfl
  case halt =>
    obtain ⟨hlines, hchans, hlink, halloc, hring, hfixed⟩ := s.part.raiseSequence.short_halt_settled
    obtain ⟨hmode, hlong, hstarting, hsequence⟩ := s.part.raiseSequence.short_halt_cmd
    have hkept := hfixed.trans (Part.halt_fixed _)
    have hline (n : Line) : ((s.part.raiseSequence.short .halt Part.halt).settled).lines[n] = s.part.lines[n].halted := by
      rw [hlines, Part.halt_line]
      rfl
    have hchan (k : Chan) : ((s.part.raiseSequence.short .halt Part.halt).settled).chans[k] = s.part.chans[k].halted := by
      rw [hchans, Part.halt_chan]
      rfl
    refine ⟨_, exec_halt_accepted htakes haccepts, hmode, hlong, hstarting, hsequence, fun n hout => ?out,
      fun n hin => ?idle, fun n hin hbusy => ?cleared, fun n => congrFun (congrArg Fixed.profiles hkept) n,
      fun k => ?chan, ?link, fun n => ?waiter, ?occupancy, ?pointers, fun n => ?ring, ?queue,
      congrArg Fixed.sup hkept, congrArg Fixed.supply hkept, congrArg Fixed.directory hkept, congrArg Fixed.codes hkept,
      congrArg Fixed.copies hkept, congrArg Fixed.gen hkept, congrArg Fixed.descriptors hkept,
      congrArg Fixed.cadence hkept, congrArg Fixed.clock hkept, rfl, State.served_pending ..⟩
    case out => exact (hline n).trans (LineRecord.halted_outOfService hout)
    case idle => exact (congrArg LineRecord.state (hline n)).trans (LineRecord.halted_inService hin)
    case cleared =>
      rw [State.after_part, hline, LineRecord.halted_enters hin hbusy]
      rfl
    case chan =>
      rw [State.after_part, hchan]
      exact ⟨ChanRecord.halted_state _, ChanRecord.halted_linkChanges _, ChanRecord.halted_config _⟩
    case link => exact hlink.trans (Part.halt_link _)
    case waiter =>
      rw [State.after_part, halloc, Part.halt_alloc]
      exact getElem_replicate_fin _ n
    case occupancy => rw [State.after_part, halloc, Part.halt_alloc]
    case pointers =>
      rw [State.after_part, halloc, Part.halt_alloc]
      rfl
    case ring =>
      rw [State.after_part, hring, Part.halt_ring]
      exact ⟨getElem_replicate_fin _ n, getElem_replicate_fin _ n⟩
    case queue =>
      rw [State.after_part, hring, Part.halt_ring]
      rfl

end Sys2Proof.Machine
end

section
/-! What HALTED says of lines, channels, the link, the wait queue and the ringing (R170), which events leave that alone, and the
statement that every step keeps it (R41, R76, R112, R126, R170, R174). -/

namespace Sys2Proof.Machine

/-! ## A part at rest -/

/-- What R170 speaks of: the states of lines and channels and of the link, and who waits or rings. -/
structure Standing where
  lines : Line → LineState
  waiters : Line → Option WaitEntry
  slots : Line → Option CadencePosition
  chans : Chan → ChanState
  linkChanges : Chan → List LinkChange
  link : LinkState
  occupancy : List Chan
  queue : List Line

/-- What R170 speaks of, of a part. -/
def Part.standing (p : Part) : Standing :=
  { lines := fun n => p.lines[n].state, waiters := fun n => p.alloc.waiters[n], slots := fun n => p.ring.slots[n],
    chans := fun k => p.chans[k].state, linkChanges := fun k => p.chans[k].linkChanges, link := p.link.state,
    occupancy := p.alloc.occupancy, queue := p.ring.queue }

/-- R170: what holds of a part in HALTED. -/
structure Standing.AtRest (x : Standing) : Prop where
  lines : ∀ n, x.lines n = .idle ∨ x.lines n = .outOfService
  waiters : ∀ n, x.waiters n = none
  slots : ∀ n, x.slots n = none
  chans : ∀ k, x.chans k = .offline
  linkChanges : ∀ k, x.linkChanges k = []
  link : x.link = .off
  occupancy : x.occupancy = []
  queue : x.queue = []

/-- The statement's predicate, of a part. -/
def Part.RestsHalted (p : Part) : Prop := p.cmd.mode = .halted → p.standing.AtRest

theorem State.haltedAtRest_iff (s : State) : s.haltedAtRest ↔ s.part.RestsHalted :=
  ⟨fun h hmode => by
    obtain ⟨hlines, hchans, hlink, hoccupancy, hqueue⟩ := h hmode
    exact ⟨fun n => (hlines n).1, fun n => (hlines n).2.1, fun n => (hlines n).2.2, fun k => (hchans k).1,
      fun k => (hchans k).2, hlink, hoccupancy, hqueue⟩,
  fun h hmode =>
    have hrest := h hmode
    ⟨fun n => ⟨hrest.lines n, hrest.waiters n, hrest.slots n⟩, fun k => ⟨hrest.chans k, hrest.linkChanges k⟩, hrest.link,
      hrest.occupancy, hrest.queue⟩⟩

/-- The body of the part decides what R170 speaks of. -/
theorem Part.standing_of_body {p q : Part} (h : p.body = q.body) : p.standing = q.standing := by
  show p.body.standing = q.body.standing
  rw [h]

/-! ## Operations that leave it alone -/

section Leaves

variable (p : Part)

@[simp] theorem Part.setSupervisor_standing (n : Line) (v : Supervisor) :
    (p.setSupervisor n v).standing = p.standing := rfl

@[simp] theorem Part.withCmd_standing (c : CommandUnit) : ({ p with cmd := c } : Part).standing = p.standing := rfl

@[simp] theorem Part.setLong_standing (c : LongCommand) : (p.setLong c).standing = p.standing := rfl

@[simp] theorem Part.raiseSequence_standing : p.raiseSequence.standing = p.standing := rfl

@[simp] theorem Part.hand_standing (kind : RecordKind) (x : Subject) (a b : Word) (tag : SnapshotTag) :
    (p.hand kind x a b tag).standing = p.standing := Part.standing_of_body (by simp)

@[simp] theorem Part.request_standing (who : Requester) (off : Nat) (d : Option Word) :
    (p.request who off d).standing = p.standing := rfl

@[simp] theorem Part.requestEcho_standing (w : Word) : (p.requestEcho w).standing = p.standing :=
  Part.standing_of_body (by simp)

@[simp] theorem Part.tableRefused_standing (t : TableRecord) (reason : RefusalReason) :
    (p.tableRefused t reason).standing = p.standing := Part.hand_standing ..

@[simp] theorem Part.commandEnded_standing (code : BitVec 8) (sequence : BitVec 4) (aborted : Bool) :
    (p.commandEnded code sequence aborted).standing = p.standing := Part.standing_of_body (by simp)

@[simp] theorem Part.refuseCommand_standing (code : BitVec 8) (reason : CommandResult) :
    (p.refuseCommand code reason).standing = p.standing := by
  rw [Part.refuseCommand, Part.requestEcho_standing, Part.hand_standing]

@[simp] theorem Part.short_standing (c : Command) (effect : Part → Part) :
    (p.short c effect).standing = (effect p).standing := Part.commandEnded_standing ..

@[simp] theorem Part.accepted_standing (c : Command) : (p.accepted c).standing = p.standing := Part.requestEcho_standing ..

@[simp] theorem Part.closeOrPend_standing (reason : CloseReason) : (p.closeOrPend reason).standing = p.standing :=
  Part.standing_of_body (by simp)

@[simp] theorem Part.settled_standing : p.settled.standing = p.standing := Part.standing_of_body (by simp)

@[simp] theorem Part.dropWake_standing : p.dropWake.standing = p.standing := rfl

/-- Installing a record of a channel that leaves its state and its link changes. -/
theorem Part.setChan_standing {k : Chan} {c : ChanRecord} (hst : c.state = p.chans[k].state)
    (hchanges : c.linkChanges = p.chans[k].linkChanges) : (p.setChan k c).standing = p.standing := by
  have hstate (j : Chan) : (p.setChan k c).chans[j].state = p.chans[j].state := by
    rw [Part.setChan_chans, getElem_set_fin]
    split
    · rename_i hkj
      exact hkj ▸ hst
    · rfl
  have hlink (j : Chan) : (p.setChan k c).chans[j].linkChanges = p.chans[j].linkChanges := by
    rw [Part.setChan_chans, getElem_set_fin]
    split
    · rename_i hkj
      exact hkj ▸ hchanges
    · rfl
  simp only [Part.standing, hstate, hlink, Part.setChan_lines, Part.setChan_alloc, Part.setChan_ring, Part.setChan_link]

/-- Installing a record of a line that leaves its state. -/
theorem Part.setLine_standing {n : Line} {l : LineRecord} (h : l.state = p.lines[n].state) :
    (p.setLine n l).standing = p.standing := by
  have hstate (m : Line) : (p.setLine n l).lines[m].state = p.lines[m].state := by
    rw [Part.setLine_lines, getElem_set_fin]
    split
    · rename_i hnm
      exact hnm ▸ h
    · rfl
  simp only [Part.standing, hstate, Part.setLine_chans, Part.setLine_alloc, Part.setLine_ring, Part.setLine_link]

@[simp] theorem Part.setPartner_standing (n : Line) (x : Option Partner) (r : Option Role) :
    (p.setPartner n x r).standing = p.standing := Part.setLine_standing p rfl

@[simp] theorem Part.setChanPartner_standing (k : Chan) (x : Option Line) :
    (p.setChanPartner k x).standing = p.standing := Part.setChan_standing p rfl rfl

@[simp] theorem Part.breakChan_standing (k : Chan) : (p.breakChan k).standing = p.standing := by
  unfold Part.breakChan
  split <;> simp

@[simp] theorem Part.continueSnapshot_standing : p.continueSnapshot.standing = p.standing := by
  unfold Part.continueSnapshot
  split
  · unfold Part.snapshotNext
    split <;> simp [Part.handSnapshotLine, Part.handSnapshotChannel, Part.handSnapshotEnd]
  · rfl

@[simp] theorem Part.takeDisposal_standing : p.takeDisposal.standing = p.standing := by
  unfold Part.takeDisposal
  split
  · rfl
  · simp only
    repeat' split
    all_goals simp

@[simp] theorem Part.beginLong_standing (c : LongCommand) : (p.beginLong c).standing = p.standing := rfl

@[simp] theorem Part.snapshot_standing : p.snapshot.standing = p.standing := by
  simp only [Part.snapshot, Part.accepted_standing, apply_ite Part.standing, Part.continueSnapshot_standing, ite_self,
    Part.beginLong_standing]

@[simp] theorem Part.requestRead_standing (off : Nat) : (p.requestRead off).standing = p.standing := rfl

@[simp] theorem Part.continueRescan_standing (off : Nat) : (p.continueRescan off).standing = p.standing := by
  unfold Part.continueRescan
  split <;> simp

@[simp] theorem Part.rescan_standing : p.rescan.standing = p.standing := by
  simp only [Part.rescan, Part.accepted_standing, apply_ite Part.standing, Part.requestRead_standing, ite_self,
    Part.beginLong_standing]

@[simp] theorem Part.echoCompleted_standing : p.echoCompleted.standing = p.standing := by
  unfold Part.echoCompleted
  simp only
  split <;> simp

@[simp] theorem Part.installCode_standing (x : Code) (w : Word) : (p.installCode x w).standing = p.standing := by
  unfold Part.installCode
  split
  · exact Part.tableRefused_standing ..
  · rfl

@[simp] theorem Part.commitEntry_standing (d : EntryIx) (w : Word) : (p.commitEntry d w).standing = p.standing := by
  unfold Part.commitEntry
  simp only
  split
  · exact Part.tableRefused_standing ..
  · rfl

@[simp] theorem Part.commitTone_standing (t : ToneIx) (w : Word) : (p.commitTone t w).standing = p.standing := by
  unfold Part.commitTone
  split
  · exact Part.tableRefused_standing ..
  · rfl

@[simp] theorem Part.commitCadence_standing (w : Word) : (p.commitCadence w).standing = p.standing := by
  unfold Part.commitCadence
  split
  · exact Part.tableRefused_standing ..
  · rfl

/-- R161: a strobe counts and samples, and changes no state. -/
theorem Part.strobe_standing (rrdy rwake supw : Bool) : (p.strobe rrdy rwake supw).standing = { p.standing with
    waiters := fun n => (p.alloc.waiters[n]).map (·.tick p.gen)
    slots := fun n => (p.ring.slots[n]).map (·.tick p.tone.cadence) } := by
  obtain ⟨-, -, hoccupancy, -, hqueue, -⟩ := p.strobe_frame rrdy rwake supw
  have hlink : (p.strobe rrdy rwake supw).link.state = p.link.state := by rw [Part.strobe_link]
  simp only [Part.standing, Part.strobe_line, Part.strobe_waiter, Part.strobe_slot, Part.strobe_chan, hlink, hoccupancy,
    hqueue, LineRecord.tick, ChanRecord.tick]

end Leaves

/-! ## Operations on a part at rest -/

section AtRest

variable {p : Part} (hp : p.standing.AtRest)
include hp

theorem Part.atRest_congr {q : Part} (h : q.standing = p.standing) : q.standing.AtRest := h ▸ hp

/-- A line is set IDLE or OUT-OF-SERVICE. -/
theorem Part.atRest_enterLine {st : LineState} (hst : st = .idle ∨ st = .outOfService) (n : Line) :
    (p.enterLine n st).standing.AtRest := by
  have hlines (m : Line) : (p.enterLine n st).lines[m].state = .idle ∨ (p.enterLine n st).lines[m].state = .outOfService := by
    by_cases hm : m = n
    · rw [hm, Part.enterLine_self, LineRecord.enter_state]
      exact hst
    · rw [Part.enterLine_ne _ _ _ _ hm]
      exact hp.lines m
  have hrest : (p.enterLine n st).standing = { p.standing with lines := fun m => (p.enterLine n st).lines[m].state } := by
    simp only [Part.standing, Part.enterLine_alloc, Part.enterLine_ring, Part.enterLine_chans, Part.enterLine_link]
  rw [hrest]
  exact { hp with lines := hlines }

theorem Part.atRest_strobe (rrdy rwake supw : Bool) : (p.strobe rrdy rwake supw).standing.AtRest := by
  rw [Part.strobe_standing]
  exact { hp with
    waiters := fun n => congrArg (Option.map _) (hp.waiters n)
    slots := fun n => congrArg (Option.map _) (hp.slots n) }

end AtRest

/-! ## Events of a part at rest in HALTED -/

theorem Part.endAlerting_ignored {p : Part} {n : Line} (h : p.lines[n].state ≠ .alerting) : p.endAlerting n = p := by
  unfold Part.endAlerting
  split
  case h_4 => rfl
  all_goals exact absurd ‹_› h

section Halted

variable {p : Part} (hp : p.standing.AtRest)
include hp

theorem Part.atRest_lineTimer {st : LineState} (hidle : st ≠ .idle) (hout : st ≠ .outOfService) (n : Line)
    (limit : LineLimit → Bool) : p.lineTimerDue n st limit = false := by
  have hst : (p.lines[n].state == st) = false :=
    beq_eq_false_iff_ne.mpr fun h => (hp.lines n).elim (fun h' => hidle (h.symm.trans h')) fun h' => hout (h.symm.trans h')
  rw [Part.lineTimerDue, hst, Bool.false_and, Bool.false_and]

theorem Part.atRest_chanTimer (k : Chan) {states : ChanState → Bool} (hoff : states .offline = false) :
    p.chanTimerDue k states = false := by
  have hst : p.chans[k].state = .offline := hp.chans k
  rw [Part.chanTimerDue, hst, hoff, Bool.false_and]

theorem Part.atRest_dropLine (n : Line) (cause : Cause) : p.dropLine n cause = p :=
  Part.dropLine_noCall cause ((hp.lines n).imp_right fun h => .inr (.inr h))

theorem Part.atRest_clearChan (k : Chan) : p.clearChan k = p :=
  Part.clearChan_noCall (by rw [show p.chans[k].state = .offline from hp.chans k]; rfl)

theorem Part.atRest_clearLine (n : Line) : (p.clearLine n).standing = p.standing := by
  have hcall : p.lines[n].state.hasCall = false :=
    (LineState.hasCall_eq_false_iff _).mpr ((hp.lines n).imp_right fun h => .inr (.inr h))
  cases hlong : p.cmd.long with
  | clearCalls lines chans => rw [Part.clearLine_noCall hlong hcall, Part.setLong_standing]
  | none | rescan | snapshot => simp only [Part.clearLine, hlong]

theorem Part.atRest_clearIncoming (k : Chan) : (p.clearIncoming k).standing = p.standing := by
  cases hlong : p.cmd.long with
  | clearCalls lines chans =>
    have hstays (c : LongCommand) : (p.setLong c).clearChan k = p.setLong c :=
      Part.atRest_clearChan (p := p.setLong c) hp k
    rw [Part.clearIncoming_clears hlong, hstays, Part.setLong_standing]
  | none | rescan | snapshot => simp only [Part.clearIncoming, hlong]

/-- R111: the partnership of the channel is broken, its far code dropped; it stays OFFLINE. -/
theorem Part.atRest_resetChan (k : Chan) : (p.resetChan k).standing = p.standing := by
  have hdrop : (p.dropPartner k .congestion).standing = p.standing := by
    cases hpartner : p.chans[k].partner with
    | none => rw [Part.dropPartner_none _ hpartner]
    | some n =>
      rw [Part.dropPartner_some _ hpartner, Part.atRest_dropLine (p := p.breakChan k) (by simpa using hp),
        Part.breakChan_standing]
  have hrest : (p.dropPartner k .congestion).standing.AtRest := Part.atRest_congr hp hdrop
  have hlink : ((p.dropPartner k .congestion).link.state == .up) = false := by
    rw [show (p.dropPartner k .congestion).link.state = .off from hrest.link]
    rfl
  have hset : ((p.dropPartner k .congestion).setChan k
      ((p.dropPartner k .congestion).chans[k].dropped false)).standing = p.standing :=
    (Part.setChan_standing (c := (p.dropPartner k .congestion).chans[k].dropped false) _ rfl rfl).trans hdrop
  have hst : ((p.dropPartner k .congestion).setChan k
      ((p.dropPartner k .congestion).chans[k].dropped false)).chans[k].state = .offline :=
    (congrFun (congrArg Standing.chans hset) k).trans (hp.chans k)
  simp only [Part.resetChan, hlink, Bool.false_and, hst]
  exact hset

theorem Part.atRest_channelReset (operand : BitVec 8) : (p.channelReset operand).standing = p.standing := by
  unfold Part.channelReset
  split
  · exact Part.atRest_resetChan hp _
  · rfl

theorem Part.atRest_grantSlots : p.grantSlots = p := Part.grantSlots_stays (.inl hp.queue)

theorem Part.atRest_budgetChanged (before : Nat) : p.budgetChanged before = p := by
  rw [Part.budgetChanged, Part.atRest_grantSlots hp]
  exact ite_self _

/-- R130: no line waits for a slot and no entry for a channel. -/
theorem Part.atRest_acceptSupply : p.acceptSupply.standing = p.standing := by
  have hhanded (warning : Bool) : (p.handSupply warning).standing = p.standing := Part.hand_standing ..
  have hrest (warning : Bool) : (p.handSupply warning).standing.AtRest := Part.atRest_congr hp (hhanded warning)
  rw [Part.acceptSupply_eq, Part.atRest_budgetChanged (hrest _),
    Part.supplyToAllocator_none (.inr (.inr (hrest _).waiters)), hhanded]

/-- R140: a line that is not ALERTING has no slot and no place in the ring queue. -/
theorem Part.atRest_alertExpired (n : Line) : (p.alertExpired n).standing = p.standing := by
  have hslot : ¬ ∃ c, p.ring.slots[n] = some c := fun ⟨c, hc⟩ => nomatch (hp.slots n).symm.trans hc
  have hqueue : p.ring.queue = [] := hp.queue
  have hcancel : (p.alertCancel n).standing = p.standing := by
    rw [Part.alertCancel_noSlot hslot, hqueue]
    show { p.standing with queue := [] } = p.standing
    rw [← hp.queue]
  have hst : (p.alertCancel n).lines[n].state ≠ .alerting := by
    rw [Part.alertCancel_lines]
    rcases hp.lines n with h | h <;> exact fun hst => nomatch h.symm.trans hst
  rw [Part.alertExpired, Part.endAlerting_ignored hst, hcancel]

theorem Part.atRest_cadence (n : Line) : (p.endCadenceStep n).standing = p.standing := by
  have hnone : p.ring.slots[n] = none := hp.slots n
  have hslots (m : Line) : (p.ring.slots.set n.val (p.ring.slots[n].map CadencePosition.moved))[m] = p.ring.slots[m] := by
    rw [getElem_set_fin]
    split
    · rename_i hnm
      rw [← hnm, hnone, Option.map_none]
    · rfl
  simp only [Part.standing, Part.endCadenceStep, hslots]

/-- R168: the configuration of an OFFLINE channel is installed, and the channel stays OFFLINE while the link is down. -/
theorem Part.atRest_commitChanConfig (k : Chan) (w : Word) : (p.commitChanConfig k w).standing = p.standing := by
  have hst : p.chans[k].state = .offline := hp.chans k
  have hset (config : ChanConfig) : (p.setChan k (p.chans[k].configured config)).standing = p.standing :=
    Part.setChan_standing p rfl rfl
  cases hwords : ChanConfig.ofWords (p.copy (chanConfigOffset k 0)) w with
  | error reason => rw [Part.commitChanConfig_error hwords, Part.tableRefused_standing]
  | ok config =>
    rw [Part.commitChanConfig_installs hwords]
    cases hold : p.chans[k].config.enabled <;> cases hnew : config.enabled
    case false.true =>
      have hdown : ¬ (p.link.state = .up ∧ p.isRunning = true) := fun ⟨hup, _⟩ => nomatch hp.link.symm.trans hup
      rw [Part.installChanConfig_offlineEnabled hold hnew hst, if_neg hdown, hset]
    case true.false => rw [Part.installChanConfig_offlineDisabled hold hnew hst, hset]
    all_goals rw [Part.installChanConfig_same (hold.trans hnew.symm), hset]

theorem Part.atRest_linkDown : p.linkDown = p := by
  have hst : p.link.state = .off := hp.link
  simp only [Part.linkDown, hst]

section Mode

variable (hmode : p.cmd.mode = .halted)
include hmode

omit hp in
theorem Part.halted_takeEvent (n : Line) (act : Part → Part) : p.takeEvent n act = p.takeHanded n :=
  if_neg (Bool.eq_false_iff.mp (Part.isRunning_halted hmode))

omit hp in
theorem Part.halted_startLine (n : Line) : (p.startLine n).standing = p.standing := by
  have hmode' : ¬ p.isRunning = true := Bool.eq_false_iff.mp (Part.isRunning_halted hmode)
  unfold Part.startLine
  simp only
  rw [if_neg fun h => hmode' h.1, Part.withCmd_standing]

omit hp in
theorem Part.halted_linkUp : p.linkUp = p :=
  if_neg fun h => Bool.eq_false_iff.mp (Part.isRunning_halted hmode) h.1

/-- R167: in HALTED a profile sets its line IDLE or OUT-OF-SERVICE at most. -/
theorem Part.atRest_commitProfile (n : Line) (w : Word) : (p.commitProfile n w).standing.AtRest := by
  cases hwords : Profile.ofWords (p.copy (profileOffset n 0)) (p.copy (profileOffset n 1)) (p.copy (profileOffset n 2)) w with
  | error reason =>
    rw [Part.commitProfile_error hwords]
    exact Part.atRest_congr hp (Part.tableRefused_standing ..)
  | ok profile =>
    by_cases htwice : profile.inService = true ∧ p.stationTaken n profile.station = true
    · rw [Part.commitProfile_duplicate hwords htwice.1 htwice.2]
      exact Part.atRest_congr hp (Part.tableRefused_standing ..)
    · rw [Part.commitProfile_installs hwords ((Bool.eq_false_or_eq_true _).symm.imp_right fun hin h => htwice ⟨hin, h⟩)]
      have hset : (p.setLine n (p.lines[n].withProfile profile)).standing.AtRest :=
        Part.atRest_congr hp (Part.setLine_standing p rfl)
      cases hold : p.lines[n].profile.inService <;> cases hnew : profile.inService
      case false.true =>
        obtain ⟨henters, -⟩ := Part.installProfile_enters hold hnew
        rw [henters (.inl hmode)]
        exact Part.atRest_enterLine hset (.inl rfl) n
      case true.false =>
        obtain ⟨-, hleaves⟩ := Part.installProfile_leaves hold hnew
        rw [hleaves hmode]
        exact Part.atRest_enterLine hset (.inr rfl) n
      all_goals
        rw [Part.installProfile_same (hold.trans hnew.symm)]
        exact hset

theorem Part.atRest_commitGeneral (w : Word) : (p.commitGeneral w).standing = p.standing := by
  cases hwords : GenConfig.ofWords (fun i => p.copy (generalOffset i)) w with
  | error reason => rw [Part.commitGeneral_error hwords, Part.tableRefused_standing]
  | ok g =>
    rw [Part.commitGeneral_installs hwords, Part.installGeneral, Part.policyChanged_not (p := { p with gen := g }) (.inl hmode),
      Part.atRest_budgetChanged (p := { p with gen := g }) hp]
    rfl

/-- R166, R177: every word of a table record, as a master writes it or RESCAN replays it. -/
theorem Part.atRest_tableWord (off : Nat) (w : Word) : (p.tableWord off w).standing.AtRest := by
  unfold Part.tableWord
  split
  · exact hp
  split
  · split
    · exact Part.atRest_congr hp (Part.installCode_standing ..)
    · exact hp
  split
  · split
    · exact Part.atRest_commitProfile hp hmode _ w
    · exact hp
  split
  · split
    · exact Part.atRest_congr hp (Part.atRest_commitChanConfig hp _ w)
    · exact hp
  split
  · exact Part.atRest_congr hp (Part.atRest_commitGeneral hp hmode w)
  split
  · split
    · exact Part.atRest_congr hp (Part.commitTone_standing ..)
    · exact hp
  split
  · exact Part.atRest_congr hp (Part.commitCadence_standing ..)
  split
  · exact Part.atRest_congr hp (Part.commitEntry_standing ..)
  · exact hp

theorem Part.atRest_takeRead (w : Word) : (p.takeRead w).standing.AtRest := by
  unfold Part.takeRead
  split
  · exact hp
  · split
    · exact Part.atRest_congr hp (by split <;> simp)
    · exact Part.atRest_congr (Part.atRest_tableWord hp hmode _ w) (Part.continueRescan_standing ..)

end Mode

end Halted

/-! ## The mode -/

section Mode

variable (p : Part)

@[simp] theorem Part.raiseSequence_fixed : p.raiseSequence.fixed = p.fixed := rfl

theorem Part.short_start_mode : (p.short .start Part.start).cmd.mode = .running := by
  show (p.short .start Part.start).fixed.mode = .running
  rw [Part.short_fixed, Part.start, Part.linkAtStart_fixed]
  rfl

theorem Part.acceptSupply_mode : p.acceptSupply.cmd.mode = p.cmd.mode := by
  show p.acceptSupply.fixed.mode = p.fixed.mode
  rw [Part.acceptSupply_eq, Part.supplyToAllocator_fixed, Part.budgetChanged_fixed, Part.handSupply, Part.hand_fixed]
  rfl

@[simp] theorem Part.takeDisposal_fixed : p.takeDisposal.fixed = p.fixed := by
  unfold Part.takeDisposal
  split
  · rfl
  · simp only
    split
    · rfl
    · split
      · rw [Part.continueSnapshot_fixed]
        rfl
      · split
        · rw [Part.continueSnapshot_fixed]
          rfl
        · rfl

theorem Part.tableRefused_mode (t : TableRecord) (reason : RefusalReason) :
    (p.tableRefused t reason).cmd.mode = p.cmd.mode := Part.hand_mode ..

theorem Part.installCode_mode (x : Code) (w : Word) : (p.installCode x w).cmd.mode = p.cmd.mode := by
  unfold Part.installCode
  split
  · exact Part.tableRefused_mode ..
  · rfl

theorem Part.commitEntry_mode (d : EntryIx) (w : Word) : (p.commitEntry d w).cmd.mode = p.cmd.mode := by
  unfold Part.commitEntry
  simp only
  split
  · exact Part.tableRefused_mode ..
  · rfl

theorem Part.commitTone_mode (t : ToneIx) (w : Word) : (p.commitTone t w).cmd.mode = p.cmd.mode := by
  unfold Part.commitTone
  split
  · exact Part.tableRefused_mode ..
  · rfl

theorem Part.commitCadence_mode (w : Word) : (p.commitCadence w).cmd.mode = p.cmd.mode := by
  unfold Part.commitCadence
  split
  · exact Part.tableRefused_mode ..
  · rfl

theorem Part.commitProfile_mode (n : Line) (w : Word) : (p.commitProfile n w).cmd.mode = p.cmd.mode := by
  unfold Part.commitProfile
  split
  · exact Part.tableRefused_mode ..
  · split
    · exact Part.tableRefused_mode ..
    · exact congrArg Fixed.mode (Part.installProfile_fixed ..)

theorem Part.commitGeneral_mode (w : Word) : (p.commitGeneral w).cmd.mode = p.cmd.mode := by
  unfold Part.commitGeneral
  split
  · exact Part.tableRefused_mode ..
  · show (p.installGeneral _).fixed.mode = p.cmd.mode
    rw [Part.installGeneral, Part.budgetChanged_fixed, Part.policyChanged_fixed]
    rfl

theorem Part.tableWord_mode (off : Nat) (w : Word) : (p.tableWord off w).cmd.mode = p.cmd.mode := by
  unfold Part.tableWord
  split
  · rfl
  split
  · split
    · exact Part.installCode_mode ..
    · rfl
  split
  · split
    · exact Part.commitProfile_mode ..
    · rfl
  split
  · split
    · exact congrArg Fixed.mode (Part.commitChanConfig_fixed ..)
    · rfl
  split
  · exact Part.commitGeneral_mode ..
  split
  · split
    · exact Part.commitTone_mode ..
    · rfl
  split
  · exact Part.commitCadence_mode ..
  split
  · exact Part.commitEntry_mode ..
  · rfl

theorem Part.takeRead_mode (w : Word) : (p.takeRead w).cmd.mode = p.cmd.mode := by
  unfold Part.takeRead
  split
  · rfl
  · split
    · split <;> rfl
    · exact (congrArg Fixed.mode (Part.continueRescan_fixed ..)).trans (Part.tableWord_mode ..)

end Mode

/-! ## HALT -/

theorem LineRecord.halted_state (l : LineRecord) : l.halted.state = .idle ∨ l.halted.state = .outOfService := by
  unfold LineRecord.halted
  split
  · rename_i h
    exact h.symm
  · exact .inl (LineRecord.enter_state ..)

theorem Part.halt_standing (p : Part) : p.halt.standing =
    { lines := fun n => p.lines[n].halted.state, waiters := fun _ => none, slots := fun _ => none, chans := fun _ => .offline,
      linkChanges := fun _ => [], link := .off, occupancy := [], queue := [] } := by
  have hlink : p.link.halted.state = .off := rfl
  simp only [Part.standing, Part.halt_line, Part.halt_chan, Part.halt_link, Part.halt_alloc, Part.halt_ring, Ring.reset,
    ChanRecord.halted_state, ChanRecord.halted_linkChanges, hlink, getElem_replicate_fin]

/-- R174: HALT leaves every part at rest. -/
theorem Part.halt_atRest (p : Part) : p.halt.standing.AtRest := by
  rw [Part.halt_standing]
  exact ⟨fun n => LineRecord.halted_state _, fun _ => rfl, fun _ => rfl, fun _ => rfl, fun _ => rfl, rfl, rfl, rfl⟩

theorem Part.short_halt_atRest (p : Part) : (p.short .halt Part.halt).standing.AtRest := by
  rw [Part.short_standing]
  exact p.halt_atRest

/-! ## Every event, and every step -/

/-- An event of a part at rest in HALTED leaves it at rest, or is the START that ends HALTED. -/
theorem Part.Event.atRest {p q : Part} (h : Part.Event p q) (hmode : p.cmd.mode = .halted) (hp : p.standing.AtRest) :
    q.RestsHalted := by
  have hrest {q : Part} (h : q.standing = p.standing) : q.RestsHalted := fun _ => Part.atRest_congr hp h
  have hnever {b : Bool} {q : Part} (hdue : b = true) (hnot : b = false) : q.RestsHalted := nomatch hnot.symm.trans hdue
  have hnot : p.isRunning = false := Part.isRunning_halted hmode
  have hoff : p.link.state = .off := hp.link
  have hchan (k : Chan) : p.chans[k].state = .offline := hp.chans k
  cases h with
  | senseWrite | onHookMin | interDigitPause | writePending | tone | noCommand => exact hrest rfl
  | offHook n | onHook n | digit n | misdial n => exact hrest (by rw [Part.halted_takeEvent hmode]; rfl)
  | firstDigit n hdue | interDigit n hdue | hotline n hdue => exact hnever hdue (Part.atRest_lineTimer (st := .dialing) hp nofun nofun n _)
  | cleardown n hdue => exact hnever hdue (Part.atRest_lineTimer (st := .cleardown) hp nofun nofun n _)
  | howler n hdue => exact hnever hdue (Part.atRest_lineTimer (st := .lockout) hp nofun nofun n _)
  | startLine n => exact hrest (Part.halted_startLine hmode n)
  | clearLine n => exact hrest (Part.atRest_clearLine hp n)
  | clearIncoming k => exact hrest (Part.atRest_clearIncoming hp k)
  | queueTimer n hdue => exact hnever hdue (Part.entryDue_none (hp.waiters n)).1
  | unusableTimer n hdue => exact hnever hdue (Part.entryDue_none (hp.waiters n)).2
  | signalIn k w => exact hrest (by rw [Part.signalIn_offline (hchan k)])
  | seizeLimit k hdue | incomingLimit k hdue | releaseGuard k hdue | recovery k hdue =>
    exact hnever hdue (Part.atRest_chanTimer hp k rfl)
  | digitHold k hdue | digitGap k hdue =>
    exact hnever hdue (by
      show (p.chanTimerDue k _ && _) = false
      rw [Part.atRest_chanTimer hp k rfl, Bool.false_and])
  | stall k hdue => exact hnever hdue (by rw [Part.stallDue, hchan]; rfl)
  | channelUp k hdue | channelDown k hdue =>
    exact hnever hdue (by rw [Part.linkChangeIs, show p.chans[k].linkChanges = [] from hp.linkChanges k]; rfl)
  | installCode | commitEntry | commitTone | commitCadence | refused | rescan | snapshot | reportFlush | echoCompleted |
      takeDisposal => exact hrest (by simp)
  | commitProfile n w => exact fun _ => Part.atRest_commitProfile hp hmode n w
  | commitChanConfig k w => exact hrest (Part.atRest_commitChanConfig hp k w)
  | commitGeneral w => exact hrest (Part.atRest_commitGeneral hp hmode w)
  | start => exact fun hhalted => absurd ((Part.short_start_mode _).symm.trans hhalted) nofun
  | halt => exact fun _ => Part.short_halt_atRest _
  | clearCalls hrunning | lineReset _ hrunning => exact hnever hrunning hnot
  | linkUp => exact hrest (by rw [Part.short_standing, Part.halted_linkUp (p := p.raiseSequence) hmode]; rfl)
  | linkDown => exact hrest (by rw [Part.short_standing, Part.atRest_linkDown (p := p.raiseSequence) hp]; rfl)
  | channelReset o => exact hrest (by rw [Part.short_standing, Part.atRest_channelReset (p := p.raiseSequence) hp]; rfl)
  | takeRead w => exact fun _ => Part.atRest_takeRead hp hmode w
  | linkReady hdue => exact hnever hdue (by rw [Part.readyDue, hoff]; rfl)
  | linkReadyLost hdue => exact hnever hdue (by rw [Part.readyLostDue, hoff]; rfl)
  | startLimit hdue => exact hnever hdue (by rw [Part.startLimitDue, hoff]; rfl)
  | holdoff hdue => exact hnever hdue (by rw [Part.holdoffDue, hoff]; rfl)
  | silence hdue => exact hnever hdue (by rw [Part.silenceDue, hoff]; rfl)
  | wake => exact hrest (by rw [Part.wake_unheeded (.inl hmode), Part.dropWake_standing])
  | acceptSupply => exact hrest (Part.atRest_acceptSupply hp)
  | alertExpired n => exact hrest (Part.atRest_alertExpired hp n)
  | cadence n => exact hrest (Part.atRest_cadence hp n)
  | headerWrite x w b => exact hrest rfl
  | wordWritten => exact hrest (Part.standing_of_body p.wordWritten_body)
  | ageExpired => exact hrest (Part.closeOrPend_standing ..)

/-- No event but HALT takes a part out of RUNNING. -/
theorem Part.Event.running {p q : Part} (h : Part.Event p q) (hmode : p.cmd.mode = .running) :
    q.cmd.mode = .running ∨ q = p.raiseSequence.short .halt Part.halt := by
  have hkeeps {q : Part} (h : q.fixed = p.fixed) : q.cmd.mode = .running ∨ q = p.raiseSequence.short .halt Part.halt :=
    .inl ((congrArg Fixed.mode h).trans hmode)
  have htaken {act : Part → Part} (n : Line) (hact : ∀ r, (act r).fixed = r.fixed) :
      (p.takeEvent n act).cmd.mode = .running :=
    (congrArg Fixed.mode ((congrArg Part.fixed (if_pos (Part.isRunning_running hmode))).trans (hact (p.takeHanded n)))).trans hmode
  cases h with
  | senseWrite | onHookMin | interDigitPause | writePending => exact .inl hmode
  | offHook n => exact .inl (htaken n (Part.offHook_fixed · n))
  | onHook n => exact .inl (htaken n (Part.onHook_fixed · n))
  | digit n d => exact .inl (htaken n (Part.dialDigit_fixed · n d))
  | misdial n => exact .inl (htaken n (Part.misdial_fixed · n))
  | start hhalted => exact nomatch (Part.isRunning_running hmode).symm.trans hhalted
  | halt => exact .inr rfl
  | acceptSupply => exact .inl ((Part.acceptSupply_mode p).trans hmode)
  | installCode x w => exact .inl ((Part.installCode_mode p x w).trans hmode)
  | commitEntry d w => exact .inl ((Part.commitEntry_mode p d w).trans hmode)
  | commitProfile n w => exact .inl ((Part.commitProfile_mode p n w).trans hmode)
  | commitGeneral w => exact .inl ((Part.commitGeneral_mode p w).trans hmode)
  | commitTone t w => exact .inl ((Part.commitTone_mode p t w).trans hmode)
  | commitCadence w => exact .inl ((Part.commitCadence_mode p w).trans hmode)
  | takeRead w => exact .inl ((Part.takeRead_mode p w).trans hmode)
  | _ => exact hkeeps (by simp)

theorem Part.Event.restsHalted {p q : Part} (h : Part.Event p q) (hp : p.RestsHalted) : q.RestsHalted := by
  cases hmode : p.cmd.mode with
  | halted => exact h.atRest hmode (hp hmode)
  | running =>
    obtain hrunning | rfl := h.running hmode
    · exact fun hhalted => nomatch hrunning.symm.trans hhalted
    · exact fun _ => Part.short_halt_atRest _

theorem Part.reset_atRest : Part.reset.standing.AtRest where
  lines n := .inr (congrArg LineRecord.state (State.reset_line n))
  waiters n := State.reset_waiter n
  slots n := State.reset_slot n
  chans k := congrArg ChanRecord.state (State.reset_chan k)
  linkChanges k := congrArg ChanRecord.linkChanges (State.reset_chan k)
  link := rfl
  occupancy := rfl
  queue := rfl

/-- Settles O58, by the induction over a command: in HALTED an event leaves a part at rest, and only HALT, which leaves every
part at rest, takes it out of RUNNING. -/
theorem haltedAtRestKept : Obligations.HaltedAtRestKept := by
  intro s t hs hstep
  rw [State.haltedAtRest_iff] at hs ⊢
  refine step_keeps (Inv := fun u => u.part.RestsHalted) (fun _ _ h => h) (fun _ _ _ h he => ?_) hs hstep
  refine exec_inv (Inv := Part.RestsHalted) (fun _ => Part.reset_atRest) (fun _ _ => Part.reset_atRest) (fun p q hp hevent => ?settled)
    (fun p r w u hp hmode => ?strobe) h he
  case settled =>
    intro hmode
    rw [Part.settled_standing]
    exact hevent.restsHalted hp ((Part.settled_mode q).symm.trans hmode)
  case strobe => exact Part.atRest_strobe (hp hmode) r w u

end Sys2Proof.Machine
end

section
/-! The pending words, the tone descriptors and the ring cadence: what their words say, what a commit installs or refuses, and
then the statement about them (R137, R143, R166). -/

namespace Sys2Proof.Machine

/-! ## The words of a tone descriptor and of the cadence (R143, R137) -/

section Words

variable {word : Nat → Word}

theorem ToneStep.inRange_iff (x : ToneStep) :
    x.inRange = true ↔ x.start ≤ 1023 ∧ x.length ≤ 64 ∧ x.start + x.length ≤ 1024 := by
  simp only [ToneStep.inRange, Bool.and_eq_true, decide_eq_true_eq, and_assoc]

/-- Step `i` of the tone descriptor that eight words form. -/
def toneStepOf (word : Nat → Word) (i : Nat) : ToneStep := .ofWords (word (2 * i)) (word (2 * i + 1))

/-- R143: all four steps of a tone descriptor lie in the tone store. -/
def toneFits (word : Nat → Word) : Prop :=
  (toneStepOf word 0).inRange = true ∧ (toneStepOf word 1).inRange = true ∧ (toneStepOf word 2).inRange = true ∧
    (toneStepOf word 3).inRange = true

theorem toneFits_iff : toneFits word ↔
    ([toneStepOf word 0, toneStepOf word 1, toneStepOf word 2, toneStepOf word 3].all ToneStep.inRange) = true := by
  simp only [toneFits, List.all_cons, List.all_nil, Bool.and_true, Bool.and_eq_true]

theorem toneOfWords_fits (h : toneFits word) :
    toneOfWords word = .ok #v[toneStepOf word 0, toneStepOf word 1, toneStepOf word 2, toneStepOf word 3] :=
  if_pos (toneFits_iff.mp h)

theorem toneOfWords_range (h : ¬ toneFits word) : toneOfWords word = .error .range :=
  if_neg fun hall => h (toneFits_iff.mpr hall)

/-- Step `i` of the ring cadence that eight words form. -/
def cadenceStepOf (word : Nat → Word) (i : Nat) : CadenceStep :=
  ⟨decide (word (2 * i) = 1), (word (2 * i + 1)).toNat⟩

/-- R137: every step of the ring cadence has a kind and a duration that it may have. -/
def cadenceFits (word : Nat → Word) : Prop :=
  ∀ i : Nat, i < 4 → (word (2 * i)).toNat ≤ 1 ∧ (word (2 * i + 1)).toNat ≤ 10000

theorem cadenceMisfit_iff :
    (([0, 1, 2, 3] : List Nat).any fun s => 1 < (word (2 * s)).toNat || 10000 < (word (2 * s + 1)).toNat) = true ↔
      ¬ cadenceFits word := by
  have hmem : ∀ i : Nat, i ∈ [0, 1, 2, 3] ↔ i < 4 := fun i => by
    simp only [List.mem_cons, List.not_mem_nil, or_false]; omega
  simp only [List.any_eq_true, hmem, Bool.or_eq_true, decide_eq_true_eq, cadenceFits, not_forall, not_and_or, Nat.not_le,
    exists_prop]

theorem cadenceOfWords_range (h : ¬ cadenceFits word) : cadenceOfWords word = .error .range :=
  if_pos (cadenceMisfit_iff.mpr h)

/-- The duration of the first step is judged once the cadence is in range (log 26). -/
theorem cadenceOfWords_inRange (h : cadenceFits word) : cadenceOfWords word =
    if (word 1).toNat = 0 then .error .empty
    else .ok #v[cadenceStepOf word 0, cadenceStepOf word 1, cadenceStepOf word 2, cadenceStepOf word 3] :=
  if_neg fun hmisfit => cadenceMisfit_iff.mp hmisfit h

end Words

/-! ## The commits -/

section Commit

variable {s : State} {p : Part} {t : ToneIx} {w : Word}

/-- The words that a commit of tone `t` reads: the pending copies and, last, the commit word. -/
def Part.toneWord (p : Part) (t : ToneIx) (w : Word) (i : Nat) : Word := if i = 7 then w else p.copy (toneOffset t i)

/-- The words that a commit of the cadence reads. -/
def Part.cadenceWord (p : Part) (w : Word) (i : Nat) : Word := if i = 7 then w else p.copy (cadenceOffset i)

theorem Part.commitTone_error {reason : RefusalReason} (h : toneOfWords (p.toneWord t w) = .error reason) :
    p.commitTone t w = p.tableRefused (.tone t) reason := by
  unfold Part.toneWord at h
  simp only [Part.commitTone, h]

theorem Part.commitTone_installs {steps : Vector ToneStep 4} (h : toneOfWords (p.toneWord t w) = .ok steps) :
    p.commitTone t w = { p with tone := { p.tone with descriptors := p.tone.descriptors.set t.val steps } } := by
  unfold Part.toneWord at h
  simp only [Part.commitTone, h]

theorem Part.commitCadence_error {reason : RefusalReason} (h : cadenceOfWords (p.cadenceWord w) = .error reason) :
    p.commitCadence w = p.tableRefused .cadence reason := by
  unfold Part.cadenceWord at h
  simp only [Part.commitCadence, h]

theorem Part.commitCadence_installs {steps : Vector CadenceStep 4}
    (h : cadenceOfWords (p.cadenceWord w) = .ok steps) :
    p.commitCadence w = { p with tone := { p.tone with cadence := steps } } := by
  unfold Part.cadenceWord at h
  simp only [Part.commitCadence, h]

theorem exec_pendingWordWrite {off : Offset} (hpending : isPendingOffset off.toNat = true)
    (h : s.takesWrite off.toNat w) :
    exec (.pendingWordWrite off w) s = .next ((s.served off.toNat w).after (s.part.writePending off.toNat w)) :=
  congrArg Host.Outcome.next ((if_pos hpending).trans (State.snooped_after (act := (·.writePending off.toNat w)) h))

theorem exec_toneDescriptorCommit (h : s.takesWrite (0x707 + 8 * t.val) w) :
    exec (.toneDescriptorCommit t w) s = .next ((s.served (0x707 + 8 * t.val) w).after (s.part.commitTone t w)) := by
  have hoffset : toneOffset t 7 = 0x707 + 8 * t.val := by unfold toneOffset; omega
  rw [← hoffset] at h ⊢
  exact congrArg _ (State.snooped_after (act := (·.commitTone t w)) h)

theorem exec_ringCadenceCommit (h : s.takesWrite 0x747 w) :
    exec (.ringCadenceCommit w) s = .next ((s.served 0x747 w).after (s.part.commitCadence w)) :=
  congrArg _ (State.snooped_after (act := (·.commitCadence w)) h)

end Commit

/-- Settles O43, by what the words of each record say. -/
theorem pendingWordsTonesAndCadence : Obligations.PendingWordsTonesAndCadence := by
  refine ⟨?pending, ?tone, ?cadence⟩
  case pending =>
    intro s off w hpending htakes hwf
    exact ⟨_, exec_pendingWordWrite hpending htakes, rfl, WordStore.wf_write _ w hwf,
      fun a => WordStore.read_write _ a w hwf⟩
  case tone =>
    intro s t w htakes word step fits gives
    have hfits : (fits (step 0) ∧ fits (step 1) ∧ fits (step 2) ∧ fits (step 3)) ↔ toneFits (s.part.toneWord t w) := by
      simp only [toneFits, ToneStep.inRange_iff]
      exact Iff.rfl
    rw [hfits]
    have hgives {q : Part} (hq : s.part.commitTone t w = q) : gives q := hq ▸ exec_toneDescriptorCommit htakes
    exact ⟨fun h => hgives (Part.commitTone_installs (toneOfWords_fits h)),
      fun h => hgives (Part.commitTone_error (toneOfWords_range h))⟩
  case cadence =>
    intro s w htakes word step inRange gives
    have hgives {q : Part} (hq : s.part.commitCadence w = q) : gives q := hq ▸ exec_ringCadenceCommit htakes
    have hjudged (hrange : inRange) := cadenceOfWords_inRange (word := s.part.cadenceWord w) hrange
    exact ⟨fun hrange hsome => hgives (Part.commitCadence_installs ((hjudged hrange).trans (if_neg hsome))),
      fun hrange => hgives (Part.commitCadence_error (cadenceOfWords_range hrange)),
      fun hrange hempty => hgives (Part.commitCadence_error ((hjudged hrange).trans (if_pos hempty)))⟩

end Sys2Proof.Machine
end

section
/-! The command unit: what each check of a command refuses, what a refusal hands, the fields of the echo, and then the
statement about them (R171, R172, Tables 10-5 and 10-13). -/

namespace Sys2Proof.Machine

/-! ## The checks in their order (R171) -/

section Checks

variable {p : Part} {c : Command} {operand : BitVec 8}

theorem Part.isRunning_iff (p : Part) : p.isRunning = true ↔ p.cmd.mode = .running := beq_iff_eq

theorem Part.notRunning_iff (p : Part) : (!p.isRunning) = true ↔ p.cmd.mode = .halted := by
  rw [Part.isRunning]
  cases p.cmd.mode <;> decide

theorem Part.commandRefusal_busy (hlong : p.cmd.long ≠ .none) (hc : c ≠ .halt) :
    p.commandRefusal c operand = some .refusedBusy := if_pos ⟨p.longInProgress_iff.mpr hlong, hc⟩

/-- The checks behind BUSY are reached by HALT and, while no long command runs, by every command. -/
theorem Part.commandRefusal_notBusy (h : p.cmd.long = .none ∨ c = .halt) : p.commandRefusal c operand =
    if !p.modeAllows c then some .refusedMode else if !operandOk c operand then some .refusedOperand else none := by
  refine if_neg ?_
  rintro ⟨hlong, hc⟩
  exact h.elim (p.longInProgress_iff.mp hlong) hc

theorem Part.commandRefusal_mode (h : p.cmd.long = .none ∨ c = .halt) (hmode : ¬ p.modeAllows c = true) :
    p.commandRefusal c operand = some .refusedMode := by
  rw [Part.commandRefusal_notBusy h, if_pos]
  rw [Bool.not_eq_true', Bool.eq_false_iff]
  exact hmode

theorem Part.commandRefusal_operand (h : p.cmd.long = .none ∨ c = .halt) (hmode : p.modeAllows c = true)
    (hoperand : ¬ operandOk c operand = true) : p.commandRefusal c operand = some .refusedOperand := by
  rw [Part.commandRefusal_notBusy h, hmode, if_neg (by decide), if_pos]
  rw [Bool.not_eq_true', Bool.eq_false_iff]
  exact hoperand

end Checks

/-! ## The rows -/

/-- A command that a check refuses hands its refusal and nothing else, under the raised sequence count. -/
theorem exec_command_refused {s : State} {c : Command} {operand : BitVec 8} {reason : CommandResult}
    (h : s.takesWrite 0x748 (c.code ++ operand))
    (hrefused : s.part.raiseSequence.commandRefusal c operand = some reason) :
    exec (c.instr operand) s =
      .next ((s.served 0x748 (c.code ++ operand)).after (s.part.raiseSequence.refuseCommand c.code reason)) := by
  rw [exec_command h]
  simp only [Part.command, hrefused]

theorem exec_commandUndefined {s : State} {w : Word} (h : s.takesWrite 0x748 w)
    (hcode : isCommandCode (commandCode w) = false) :
    exec (.commandUndefined w) s =
      .next ((s.served 0x748 w).after (s.part.undefinedCommand (commandCode w))) :=
  congrArg Host.Outcome.next ((if_neg (Bool.eq_false_iff.mp hcode)).trans
    (State.snooped_after (act := (·.undefinedCommand (commandCode w))) h))

theorem isCommandCode_eq_false {code : BitVec 8} (h : code = 0 ∨ 10 < code.toNat) : isCommandCode code = false := by
  rcases h with rfl | h
  · rfl
  · rw [isCommandCode, Bool.and_eq_false_iff]
    exact .inr (decide_eq_false (by omega))

/-! ## The echo (Table 10-13) -/

section Echo

variable (code : BitVec 8) (result : CommandResult) (sequence : BitVec 4)

theorem echoWord_code : (echoWord code result sequence).extractLsb' 8 8 = code :=
  calc (echoWord code result sequence).extractLsb' 8 8
    _ = (code ++ result.code).extractLsb' 4 8 := BitVec.extractLsb'_append_eq_of_le (by decide)
    _ = code.extractLsb' 0 8 := BitVec.extractLsb'_append_eq_of_le (by decide)
    _ = code := BitVec.extractLsb'_eq_self

theorem echoWord_result : (echoWord code result sequence).extractLsb' 4 4 = result.code :=
  calc (echoWord code result sequence).extractLsb' 4 4
    _ = (code ++ result.code).extractLsb' 0 4 := BitVec.extractLsb'_append_eq_of_le (by decide)
    _ = result.code.extractLsb' 0 4 := BitVec.extractLsb'_append_eq_of_add_le (by decide)
    _ = result.code := BitVec.extractLsb'_eq_self

theorem echoWord_sequence : (echoWord code result sequence).extractLsb' 0 4 = sequence :=
  calc (echoWord code result sequence).extractLsb' 0 4
    _ = sequence.extractLsb' 0 4 := BitVec.extractLsb'_append_eq_of_add_le (by decide)
    _ = sequence := BitVec.extractLsb'_eq_self

end Echo

/-- Settles O48: the checks in their order, the codes that are no command, and the fields of the echo. -/
theorem commandsAreJudgedInOrder : Obligations.CommandsAreJudgedInOrder := by
  refine ⟨?listed, ?unlisted, ?echo⟩
  case listed =>
    intro s c operand htakes p inLong allowed named refused
    have hallowed : p.modeAllows c = true ↔ allowed := by
      cases c with
      | start => exact Part.notRunning_iff p
      | halt => exact Bool.or_eq_true_iff.trans (or_congr (Part.isRunning_iff p) (Part.longInProgress_iff p))
      | clearCalls | lineReset => exact Part.isRunning_iff p
      | linkUp => exact bne_iff_ne
      | rescan | snapshot | linkDown | channelReset | reportFlush => exact iff_of_true rfl trivial
    have hnamed : operandOk c operand = true ↔ named := by
      cases c with
      | lineReset => exact decide_eq_true_iff
      | channelReset => exact Bool.and_eq_true_iff.trans (and_congr decide_eq_true_iff decide_eq_true_iff)
      | start | halt | clearCalls | rescan | snapshot | linkUp | linkDown | reportFlush => exact iff_of_true rfl trivial
    have hshort (h : ¬ inLong ∨ c = .halt) : p.cmd.long = .none ∨ c = .halt := h.imp_left not_not.mp
    have hrefused {reason : CommandResult} {item : Word} (hitem : detail1 (refusalItem reason) = item)
        (h : p.commandRefusal c operand = some reason) : refused reason item := by
      subst hitem
      exact exec_command_refused htakes h
    exact ⟨fun hlong hc => hrefused rfl (Part.commandRefusal_busy hlong hc),
      fun h hmode => hrefused rfl (Part.commandRefusal_mode (hshort h) (mt hallowed.mp hmode)),
      fun h hmode hoperand => hrefused rfl
        (Part.commandRefusal_operand (hshort h) (hallowed.mpr hmode) (mt hnamed.mp hoperand))⟩
  case unlisted =>
    intro s w htakes code p
    have hgives {q : Part} (hcode : code = 0 ∨ 10 < code.toNat) (hq : s.part.undefinedCommand code = q) :
        exec (.commandUndefined w) s = .next ((s.served 0x748 w).after q) :=
      hq ▸ exec_commandUndefined htakes (isCommandCode_eq_false hcode)
    refine ⟨fun hzero => hgives (.inl hzero) (if_pos hzero), fun hover => hgives (.inr hover) (if_neg fun hzero => ?_)⟩
    exact absurd (hzero ▸ hover : 10 < (0 : BitVec 8).toNat) (by decide)
  case echo =>
    intro code result sequence
    refine ⟨echoWord_code .., echoWord_sequence .., (echoWord_result ..).trans ?_⟩
    cases result <;> rfl

end Sys2Proof.Machine
end

section
/-! The short commands: what each does by the state of the link, of a line and of a channel, and then the statement about them
(R40, R111, R125, R126, R173, R175). -/

namespace Sys2Proof.Machine

/-! ## LINK-UP and LINK-DOWN by link state (R125) -/

section Link

variable {p : Part}

/-- R117: in HALTED an accepted LINK-UP has no effect. -/
theorem Part.linkUp_halted (hmode : p.cmd.mode = .halted) : p.linkUp = p :=
  if_neg fun ⟨hrunning, _⟩ => nomatch (Part.isRunning_halted hmode).symm.trans hrunning

theorem Part.linkDown_up (h : p.link.state = .up ∨ p.link.state = .starting) :
    p.linkDown = p.enterLink .holdoff none .command := by
  rcases h with h | h <;> rw [Part.linkDown, h]

theorem Part.linkDown_holdoff (h : p.link.state = .holdoff) :
    p.linkDown = { p with link := { p.link with demandFlag := false } } := by rw [Part.linkDown, h]

theorem Part.linkDown_off (h : p.link.state = .off) : p.linkDown = p := by rw [Part.linkDown, h]

variable (hmode : p.cmd.mode = .running) (hpolicy : p.gen.policy ≠ .off)
include hmode hpolicy

theorem Part.linkUp_off (h : p.link.state = .off) : p.linkUp = p.enterLink .starting (some .localSide) .command := by
  rw [Part.linkUp, if_pos ⟨Part.isRunning_running hmode, hpolicy⟩, h]

theorem Part.linkUp_starting (h : p.link.state = .starting) : p.linkUp = p := by
  rw [Part.linkUp, if_pos ⟨Part.isRunning_running hmode, hpolicy⟩, h]

theorem Part.linkUp_up (h : p.link.state = .up) : p.linkUp = p.restartSilence := by
  rw [Part.linkUp, if_pos ⟨Part.isRunning_running hmode, hpolicy⟩, h]

theorem Part.linkUp_holdoff (h : p.link.state = .holdoff) :
    p.linkUp = { p with link := { p.link with demandFlag := true } } := by
  rw [Part.linkUp, if_pos ⟨Part.isRunning_running hmode, hpolicy⟩, h]

end Link

/-! ## LINE-RESET (R40) -/

section LineReset

variable {p : Part} {n : Line} {operand : BitVec 8}

theorem Part.lineReset_named (h : operand.toNat = n.val) : p.lineReset operand = p.resetLine n := by
  rw [Part.lineReset, h, asFin_val]

theorem Part.resetLine_outOfService (h : p.lines[n].state = .outOfService) : p.resetLine n = p := if_pos h

/-- R38: abandoning a call reads no loop anew. -/
theorem Part.abandon_sup (p : Part) (n : Line) : (p.abandon n).sup = p.sup :=
  congrArg Fixed.sup (p.abandon_fixed n)

theorem Part.resetLine_opened (h : p.lines[n].state ≠ .outOfService) (hloop : p.sup[n].loop = .opened) :
    p.resetLine n = (p.abandon n).enterLine n .idle := by
  simp only [Part.resetLine, if_neg h, Part.abandon_sup, hloop]

theorem Part.resetLine_closed (h : p.lines[n].state ≠ .outOfService) (hloop : p.sup[n].loop = .closed) :
    p.resetLine n = (p.abandon n).enterLine n .lockout none true := by
  simp only [Part.resetLine, if_neg h, Part.abandon_sup, hloop]

end LineReset

/-! ## CHANNEL-RESET (R111) -/

section DropPartner

variable {p : Part} {n : Line} {k : Chan} (cause : Cause)

@[simp] theorem Part.hangUp_chans (p : Part) (n : Line) : (p.hangUp n cause).chans = p.chans := by
  unfold Part.hangUp
  split <;> exact Part.enterLine_chans ..

@[simp] theorem Part.hangUp_link (p : Part) (n : Line) : (p.hangUp n cause).link = p.link := by
  unfold Part.hangUp
  split <;> exact Part.enterLine_link ..

/-- R37: the teardown of a line is one of four operations. -/
theorem Part.dropLine_cases (p : Part) (n : Line) : p.dropLine n cause = (p.alertCancel n).enterLine n .idle ∨
    p.dropLine n cause = (p.setWaiter n none).hangUp n cause ∨ p.dropLine n cause = p.hangUp n cause ∨
    p.dropLine n cause = p := by
  cases h : p.lines[n].state with
  | alerting => exact .inl (Part.dropLine_alerting cause h)
  | queued => exact .inr (.inl (Part.dropLine_queued cause h))
  | dialing | trunkSetup | localCalling | talk =>
    exact .inr (.inr (.inl (Part.dropLine_connected cause (by simp only [h, true_or, or_true]))))
  | idle | cleardown | lockout | outOfService =>
    exact .inr (.inr (.inr (Part.dropLine_noCall cause (by simp only [h, true_or, or_true]))))

/-- R37: the teardown of a line changes no channel's record and not the link. -/
theorem Part.dropLine_frame (p : Part) (n : Line) :
    (p.dropLine n cause).chans = p.chans ∧ (p.dropLine n cause).link = p.link := by
  rcases p.dropLine_cases cause n with h | h | h | h <;> rw [h] <;> simp

theorem Part.breakChan_link (p : Part) (k : Chan) : (p.breakChan k).link = p.link := by
  unfold Part.breakChan
  split <;> rfl

/-- R22: what handing a teardown to its partner changes on the channel's own record. -/
theorem Part.dropPartner_self (p : Part) (k : Chan) :
    (p.dropPartner k cause).chans[k] = { p.chans[k] with partner := none } := by
  cases h : p.chans[k].partner with
  | none =>
    rw [Part.dropPartner_none _ h, ← h]
  | some n => rw [Part.dropPartner_some _ h, (Part.dropLine_frame ..).1, Part.breakChan_self h]

theorem Part.dropPartner_link (p : Part) (k : Chan) : (p.dropPartner k cause).link = p.link := by
  cases h : p.chans[k].partner with
  | none => rw [Part.dropPartner_none _ h]
  | some n => rw [Part.dropPartner_some _ h, (Part.dropLine_frame ..).2, Part.breakChan_link]

theorem Part.dropPartner_isRunning (p : Part) (k : Chan) : (p.dropPartner k cause).isRunning = p.isRunning :=
  congrArg (· == Mode.running) (congrArg Fixed.mode (p.dropPartner_fixed k cause))

end DropPartner

section ChannelReset

variable {p : Part} {k : Chan} {operand : BitVec 8}

theorem Part.channelReset_named (h : operand.toNat = k.val + 1) : p.channelReset operand = p.resetChan k := by
  rw [Part.channelReset, h, Nat.add_sub_cancel, asFin_val]

/-- R111: the record that CHANNEL-RESET leaves, of a channel that it tells to go to IDLE or not. -/
def ChanRecord.resetTo (c : ChanRecord) (toIdle : Bool) : ChanRecord :=
  ChanRecord.dropped { c with partner := none } toIdle

theorem ChanRecord.resetTo_idle (c : ChanRecord) : c.resetTo true = { c with
    partner := none, draining := false, accepted := none, candidate := none, run := 0, timer := .stopped
    stall := if c.config.stallWatch = true then .started else c.stall } := by
  simp only [ChanRecord.resetTo, ChanRecord.dropped, true_and]

theorem ChanRecord.resetTo_offline (c : ChanRecord) : c.resetTo false = { c with
    partner := none, draining := false, accepted := none, candidate := none, run := 0, timer := .stopped } := by
  simp only [ChanRecord.resetTo, ChanRecord.dropped, Bool.false_eq_true, false_and, if_false]

/-- R111: the channel is one that CHANNEL-RESET tells to go to IDLE. -/
def Part.resetsToIdle (p : Part) (k : Chan) : Bool :=
  p.link.state == .up && p.chans[k].config.enabled && p.isRunning

theorem Part.resetsToIdle_iff : p.resetsToIdle k = true ↔
    p.link.state = .up ∧ p.chans[k].config.enabled = true ∧ p.cmd.mode = .running := by
  rw [Part.resetsToIdle, Bool.and_eq_true, Bool.and_eq_true, beq_iff_eq, Part.isRunning_iff, and_assoc]

theorem Part.resetsToIdle_dropPartner (p : Part) (k : Chan) (cause : Cause) :
    (p.dropPartner k cause).resetsToIdle k = p.resetsToIdle k := by
  rw [Part.resetsToIdle, Part.dropPartner_self, Part.dropPartner_link, Part.dropPartner_isRunning]
  rfl

/-- R111: the channel's partner torn down and its record reset. -/
def Part.resetRecord (p : Part) (k : Chan) (toIdle : Bool) : Part :=
  (p.dropPartner k .congestion).setChan k (p.chans[k].resetTo toIdle)

theorem Part.resetRecord_state (p : Part) (k : Chan) (toIdle : Bool) :
    (p.resetRecord k toIdle).chans[k].state = p.chans[k].state := by
  rw [Part.resetRecord, Part.setChan_chans, getElem_set_fin_same]
  rfl

/-- R111: where a reset channel goes by its own state. -/
def Part.leaveReset (p : Part) (k : Chan) (toIdle : Bool) : Part :=
  match toIdle, p.chans[k].state with
  | true, .idle => p.leave k
  | true, _ => p.restChan k .idle
  | false, .offline => p
  | false, _ => p.restChan k .offline

theorem Part.leaveReset_idle (hst : p.chans[k].state = .idle) : p.leaveReset k true = p.leave k := by
  unfold Part.leaveReset
  split
  case h_1 => rfl
  case h_2 hstays => exact absurd hst hstays
  all_goals contradiction

theorem Part.leaveReset_toIdle (hst : p.chans[k].state ≠ .idle) : p.leaveReset k true = p.restChan k .idle := by
  unfold Part.leaveReset
  split
  case h_1 hstate => exact absurd hstate hst
  case h_2 => rfl
  all_goals contradiction

theorem Part.leaveReset_offline (hst : p.chans[k].state = .offline) : p.leaveReset k false = p := by
  unfold Part.leaveReset
  split
  case h_3 => rfl
  case h_4 hstays => exact absurd hst hstays
  all_goals contradiction

theorem Part.leaveReset_toOffline (hst : p.chans[k].state ≠ .offline) :
    p.leaveReset k false = p.restChan k .offline := by
  unfold Part.leaveReset
  split
  case h_3 hstate => exact absurd hstate hst
  case h_4 => rfl
  all_goals contradiction

theorem Part.resetChan_eq {toIdle : Bool} (h : p.resetsToIdle k = toIdle) :
    p.resetChan k = (p.resetRecord k toIdle).leaveReset k toIdle := by
  let q := p.dropPartner k .congestion
  calc p.resetChan k
    _ = (q.setChan k (q.chans[k].dropped (q.resetsToIdle k))).leaveReset k (q.resetsToIdle k) := rfl
    _ = (q.setChan k (p.chans[k].resetTo toIdle)).leaveReset k toIdle := by
      rw [Part.resetsToIdle_dropPartner, h, Part.dropPartner_self]
      rfl

/-- A channel that stays in IDLE offers itself again (log 14). -/
theorem Part.resetChan_idle (h : p.resetsToIdle k = true) (hst : p.chans[k].state = .idle) :
    p.resetChan k = (p.resetRecord k true).leave k :=
  (Part.resetChan_eq h).trans (Part.leaveReset_idle ((p.resetRecord_state k true).trans hst))

theorem Part.resetChan_toIdle (h : p.resetsToIdle k = true) (hst : p.chans[k].state ≠ .idle) :
    p.resetChan k = (p.resetRecord k true).restChan k .idle :=
  (Part.resetChan_eq h).trans (Part.leaveReset_toIdle ((p.resetRecord_state k true).trans_ne hst))

theorem Part.resetChan_offline (h : p.resetsToIdle k = false) (hst : p.chans[k].state = .offline) :
    p.resetChan k = p.resetRecord k false :=
  (Part.resetChan_eq h).trans (Part.leaveReset_offline ((p.resetRecord_state k false).trans hst))

theorem Part.resetChan_toOffline (h : p.resetsToIdle k = false) (hst : p.chans[k].state ≠ .offline) :
    p.resetChan k = (p.resetRecord k false).restChan k .offline :=
  (Part.resetChan_eq h).trans (Part.leaveReset_toOffline ((p.resetRecord_state k false).trans_ne hst))

end ChannelReset

/-! ## The rows -/

/-- A command that no check refuses takes its effect, with the sequence count raised. -/
theorem exec_accepted {s : State} {c : Command} {operand : BitVec 8} (h : s.takesWrite 0x748 (c.code ++ operand))
    (hlong : s.part.cmd.long = .none) (hmode : s.part.modeAllows c = true) (hoperand : operandOk c operand = true) :
    exec (c.instr operand) s =
      .next ((s.served 0x748 (c.code ++ operand)).after (c.effect operand s.part.raiseSequence)) := by
  rw [exec_command h, Part.command_accepted _ hlong hmode hoperand]

/-- R172: an accepted short command ends in its own event, after its effect. -/
theorem exec_short {s : State} {c : Command} {operand : BitVec 8} {f : Part → Part}
    (heffect : c.effect operand = fun p => p.short c f) (h : s.takesWrite 0x748 (c.code ++ operand))
    (hlong : s.part.cmd.long = .none) (hmode : s.part.modeAllows c = true) (hoperand : operandOk c operand = true) :
    exec (c.instr operand) s = .next ((s.served 0x748 (c.code ++ operand)).after
      ((f s.part.raiseSequence).commandEnded c.code (s.part.cmd.sequence + 1) false)) := by
  rw [exec_accepted h hlong hmode hoperand, heffect]
  rfl

/-- Settles O49, command by command. -/
theorem shortCommandsAct : Obligations.ShortCommandsAct := by
  intro s c operand htakes hlong sequence p done
  have hdone {f : Part → Part} (heffect : c.effect operand = fun p => p.short c f) (hmode : s.part.modeAllows c = true)
      (hoperand : operandOk c operand = true) {q : Part} (hq : f p = q) : done q := by
    subst hq
    exact exec_short heffect htakes hlong hmode hoperand
  refine ⟨?start, ?linkUp, ?linkDown, ?lineReset, ?channelReset, ?reportFlush⟩
  case start =>
    rintro rfl hmode
    exact hdone (f := Part.start) rfl (p.notRunning_iff.mpr hmode) rfl rfl
  case linkUp =>
    rintro rfl hpolicy
    have hup {q : Part} (hq : p.linkUp = q) : done q := hdone rfl (bne_iff_ne.mpr hpolicy) rfl hq
    exact ⟨fun hmode => hup (Part.linkUp_halted hmode), fun hmode hst => hup (Part.linkUp_off hmode hpolicy hst),
      fun hmode hst => hup (Part.linkUp_starting hmode hpolicy hst), fun hmode hst => hup (Part.linkUp_up hmode hpolicy hst),
      fun hmode hst => hup (Part.linkUp_holdoff hmode hpolicy hst)⟩
  case linkDown =>
    rintro rfl
    have hdown {q : Part} (hq : p.linkDown = q) : done q := hdone rfl rfl rfl hq
    exact ⟨fun hst => hdown (Part.linkDown_up hst), fun hst => hdown (Part.linkDown_holdoff hst),
      fun hst => hdown (Part.linkDown_off hst)⟩
  case lineReset =>
    rintro n rfl hn hmode
    have hnamed : operandOk .lineReset operand = true := decide_eq_true (by omega)
    have hreset {q : Part} (hq : p.resetLine n = q) : done q :=
      hdone rfl (Part.isRunning_running hmode) hnamed ((Part.lineReset_named hn).trans hq)
    exact ⟨fun hout => hreset (Part.resetLine_outOfService hout),
      fun hin hloop => hreset (Part.resetLine_opened hin hloop), fun hin hloop => hreset (Part.resetLine_closed hin hloop)⟩
  case channelReset =>
    rintro k rfl hk d q idles reset toIdle
    have hnamed : operandOk .channelReset operand = true :=
      Bool.and_eq_true_iff.mpr ⟨decide_eq_true (by omega), decide_eq_true (by omega)⟩
    have hreset {r : Part} (hr : p.resetChan k = r) : done r :=
      hdone rfl rfl hnamed ((Part.channelReset_named hk).trans hr)
    have hfalse (h : ¬ idles) : p.resetsToIdle k = false := Bool.eq_false_iff.mpr (mt Part.resetsToIdle_iff.mp h)
    have htoIdle : p.resetRecord k true = toIdle := by
      rw [Part.resetRecord, ChanRecord.resetTo_idle]
      rfl
    have htoOffline : p.resetRecord k false = q.setChan k reset := by
      rw [Part.resetRecord, ChanRecord.resetTo_offline]
      rfl
    rw [← htoIdle, ← htoOffline]
    exact ⟨fun h hst => hreset (Part.resetChan_idle (Part.resetsToIdle_iff.mpr h) hst),
      fun h hst => hreset (Part.resetChan_toIdle (Part.resetsToIdle_iff.mpr h) hst),
      fun h hst => hreset (Part.resetChan_offline (hfalse h) hst),
      fun h hst => hreset (Part.resetChan_toOffline (hfalse h) hst)⟩
  case reportFlush =>
    rintro rfl
    exact hdone (f := (·.closeOrPend .flush)) rfl rfl rfl rfl

end Sys2Proof.Machine
end

section
/-! The long commands as they begin: the sets and the completion of CLEAR-CALLS, the first read of RESCAN and the first record
of SNAPSHOT, and then the statement about them (R172, R176 to R178). -/

namespace Sys2Proof.Machine

/-! ## CLEAR-CALLS (R176) -/

section ClearCalls

variable {p : Part} {lines : List Line} {chans : List Chan}

theorem Part.clearCallsOver_iff (h : p.cmd.long = .clearCalls lines chans) :
    p.clearCallsOver = true ↔ lines = [] ∧ chans = [] ∧ ∀ k : Chan, p.chans[k].state.quiet = true := by
  have hquiet : (p.chans.toList.all fun c => c.state.quiet) = true ↔ ∀ k : Chan, p.chans[k].state.quiet = true := by
    rw [List.all_eq_true]
    constructor
    · exact fun hall k => hall _ (Vector.mem_toList_iff.mpr (Vector.getElem_mem k.isLt))
    · intro hall c hc
      obtain ⟨i, hi, rfl⟩ := Vector.mem_iff_getElem.mp (Vector.mem_toList_iff.mp hc)
      exact hall ⟨i, hi⟩
  simp only [Part.clearCallsOver, h]
  rw [Bool.and_eq_true, Bool.and_eq_true, List.isEmpty_iff, List.isEmpty_iff, hquiet, and_assoc]

theorem Part.judgeClearCalls_over (h : p.clearCallsOver = true) :
    p.judgeClearCalls = (p.setLong .none).commandEnded 0x03 p.cmd.longSequence false := if_pos h

theorem Part.judgeClearCalls_goesOn (h : ¬ p.clearCallsOver = true) : p.judgeClearCalls = p := if_neg h

/-- With nothing to clear CLEAR-CALLS is left to the end of its own event. -/
theorem Part.clearCalls_over (h : (p.beginLong p.clearSets).clearCallsOver = true) :
    p.clearCalls = p.beginLong p.clearSets := if_pos h

theorem Part.clearCalls_goesOn (h : ¬ (p.beginLong p.clearSets).clearCallsOver = true) :
    p.clearCalls = (p.beginLong p.clearSets).accepted .clearCalls := if_neg h

end ClearCalls

/-! ## RESCAN (R177) -/

section Rescan

variable {p : Part}

theorem Part.rescan_requests (h : p.cmd.rescanOutstanding = none) :
    p.rescan = ((p.beginLong (.rescan 0x150)).requestRead 0x150).accepted .rescan :=
  congrArg (Part.accepted · .rescan) (if_pos (Option.isNone_iff_eq_none.mpr h))

/-- A read of an aborted RESCAN is awaited first (log 20). -/
theorem Part.rescan_waits (h : p.cmd.rescanOutstanding ≠ none) :
    p.rescan = (p.beginLong (.rescan 0x150)).accepted .rescan :=
  congrArg (Part.accepted · .rescan) (if_neg (mt Option.isNone_iff_eq_none.mp h))

end Rescan

/-! ## SNAPSHOT (R178) -/

section Snapshot

variable {p : Part}

theorem Part.snapshotNext_line (p : Part) (n : Line) :
    p.snapshotNext n.val = (p.handSnapshotLine n).setLong (.snapshot (n.val + 1)) := by
  simp only [Part.snapshotNext, asFin_val]

theorem Part.snapshotNext_chan (p : Part) (k : Chan) :
    p.snapshotNext (48 + k.val) = (p.handSnapshotChannel k).setLong (.snapshot (48 + k.val + 1)) := by
  have hnoLine : asFin 48 (48 + k.val) = none := asFin_none (by omega)
  simp only [Part.snapshotNext, hnoLine, Nat.add_sub_cancel_left, asFin_val]

theorem Part.snapshotNext_end (p : Part) :
    p.snapshotNext 60 = ((p.handSnapshotEnd false).setLong .none).commandEnded 0x05 p.cmd.longSequence false := by
  have hnoLine : asFin 48 60 = none := asFin_none (by decide)
  have hnoChan : asFin 12 (60 - 48) = none := asFin_none (by decide)
  simp only [Part.snapshotNext, hnoLine, hnoChan]

theorem Part.continueSnapshot_goesOn {next : Nat} (h : p.cmd.long = .snapshot next) :
    p.continueSnapshot = p.snapshotNext next := by
  simp only [Part.continueSnapshot, h]

theorem Part.continueSnapshot_none (h : ∀ next, p.cmd.long ≠ .snapshot next) : p.continueSnapshot = p := by
  unfold Part.continueSnapshot
  split
  · exact absurd ‹_› (h _)
  · rfl

theorem Part.handSnapshotLine_sequence (p : Part) (n : Line) :
    (p.handSnapshotLine n).cmd.sequence = p.cmd.sequence := by
  rw [Part.handSnapshotLine, Part.hand_cmd_disposals]

theorem Part.snapshot_hands (h : p.cmd.awaitingAborted = 0) : p.snapshot =
    (((p.beginLong (.snapshot 0)).handSnapshotLine 0).setLong (.snapshot 1)).requestEcho
      (echoWord 0x05 .accepted p.cmd.sequence) := by
  let q := p.beginLong (.snapshot 0)
  calc p.snapshot
    _ = q.continueSnapshot.accepted .snapshot := congrArg (Part.accepted · .snapshot) (if_pos h)
    _ = ((q.handSnapshotLine 0).setLong (.snapshot 1)).accepted .snapshot :=
      congrArg (Part.accepted · .snapshot) ((Part.continueSnapshot_goesOn (p := q) rfl).trans (q.snapshotNext_line 0))
    _ = _ := congrArg (fun sequence => Part.requestEcho _ (echoWord 0x05 .accepted sequence))
      (q.handSnapshotLine_sequence 0)

/-- A record of an aborted SNAPSHOT is awaited first (log 20). -/
theorem Part.snapshot_waits (h : p.cmd.awaitingAborted ≠ 0) :
    p.snapshot = (p.beginLong (.snapshot 0)).accepted .snapshot :=
  congrArg (Part.accepted · .snapshot) (if_neg h)

end Snapshot

/-- Settles O51: each long command by what it finds, and the completion of CLEAR-CALLS by its condition. -/
theorem longCommandsBegin : Obligations.LongCommandsBegin := by
  refine ⟨?accepted, ?completion, fun q => rfl⟩
  case accepted =>
    intro s c operand htakes hlong sequence begun gives echo lines chans
    let p := s.part.raiseSequence
    have hgives (hmode : s.part.modeAllows c = true) (hoperand : operandOk c operand = true) {q : Part}
        (hq : c.effect operand p = q) : gives q := hq ▸ exec_accepted htakes hlong hmode hoperand
    refine ⟨?clearCalls, ?rescan, ?snapshot⟩
    case clearCalls =>
      rintro rfl hmode q
      have hover : (p.beginLong p.clearSets).clearCallsOver = true ↔
          lines = [] ∧ chans = [] ∧ ∀ k : Chan, s.part.chans[k].state.quiet = true :=
        Part.clearCallsOver_iff (p := p.beginLong p.clearSets) rfl
      have hclears {q : Part} (hq : p.clearCalls = q) : gives q := hgives (Part.isRunning_running hmode) rfl hq
      refine ⟨fun h => hclears (Part.clearCalls_over (hover.mpr h)), fun h => hclears (Part.clearCalls_goesOn ?_)⟩
      rw [hover]
      rintro ⟨hlines, hchans, hquiet⟩
      rcases h with h | h | ⟨k, hk⟩
      · exact h hlines
      · exact h hchans
      · exact nomatch hk.symm.trans (hquiet k)
    case rescan =>
      rintro rfl q
      exact ⟨fun h => hgives rfl rfl (Part.rescan_requests (p := p) h),
        fun h => hgives rfl rfl (Part.rescan_waits (p := p) h)⟩
    case snapshot =>
      rintro rfl
      exact ⟨fun h => hgives rfl rfl (Part.snapshot_hands (p := p) h),
        fun h => hgives rfl rfl (Part.snapshot_waits (p := p) h)⟩
  case completion =>
    intro q lines chans hlong ended
    have hover : q.clearCallsOver = true ↔ ended := Part.clearCallsOver_iff hlong
    exact ⟨fun h => Part.judgeClearCalls_over (hover.mpr h), fun h => Part.judgeClearCalls_goesOn (mt hover.mp h)⟩

end Sys2Proof.Machine
end

section
/-! The long commands as they go on: the echo that is held, the reads of RESCAN in their order and the records of SNAPSHOT in
theirs, and then the statement about them (R172, R177, R178). -/

namespace Sys2Proof.Machine

/-! ## The echo (R172) -/

section Echo

variable {p : Part} {w : Word}

theorem Part.requestEcho_free (h : p.cmd.echoOutstanding = false) : p.requestEcho w =
    { p with cmd := { p.cmd with echoOutstanding := true } }.request .commandUnit 0x749 (some w) :=
  if_neg (Bool.eq_false_iff.mp h)

theorem Part.requestEcho_held (h : p.cmd.echoOutstanding = true) :
    p.requestEcho w = { p with cmd := { p.cmd with echoHeld := some w } } := if_pos h

theorem Part.echoCompleted_none (h : p.cmd.echoHeld = none) :
    p.echoCompleted = { p with cmd := { p.cmd with echoOutstanding := false } } := by
  simp only [Part.echoCompleted, h]

theorem Part.echoCompleted_some (h : p.cmd.echoHeld = some w) : p.echoCompleted =
    { p with cmd := { p.cmd with echoOutstanding := true, echoHeld := none } }.request .commandUnit 0x749 (some w) := by
  simp only [Part.echoCompleted, h]
  rw [Part.requestEcho_free rfl]

theorem exec_echoWriteComplete {s : State} {q : Part} (hlive : s.live) (hdone : s.path.echoDone = true)
    (hq : s.part.echoCompleted = q) : exec .echoWriteComplete s =
      .next (State.after { s with path := { s.path with echoDone := false } } q) := by
  subst hq
  exact congrArg _ ((if_pos hdone).trans
    (State.event_after (s := { s with path := { s.path with echoDone := false } }) hlive))

end Echo

/-! ## The reads of RESCAN (R177) -/

section Rescan

variable {p : Part} {off : Nat} {w : Word}

theorem rescanAfter_goesOn (h : off ≠ 0x8FF) : rescanAfter off = some (if off = 0x163 then 0x600
    else if off = 0x6D7 then 0x6E0 else if off = 0x747 then 0x800 else off + 1) := by
  unfold rescanAfter
  split_ifs <;> rfl

theorem Part.continueRescan_goesOn (h : off ≠ 0x8FF) : p.continueRescan off = p.requestRead
    (if off = 0x163 then 0x600 else if off = 0x6D7 then 0x6E0 else if off = 0x747 then 0x800 else off + 1) := by
  simp only [Part.continueRescan, rescanAfter_goesOn h]

theorem Part.continueRescan_last (p : Part) : p.continueRescan 0x8FF =
    { p with cmd := { p.cmd with long := .none, rescanOutstanding := none } }.commandEnded 0x04 p.cmd.longSequence
      false := rfl

variable (houtstanding : p.cmd.rescanOutstanding = some off)
include houtstanding

theorem Part.takeRead_acts (h : p.cmd.rescanStale = false) :
    p.takeRead w = (p.tableWord off w).continueRescan off := by
  simp only [Part.takeRead, houtstanding]
  exact if_neg (Bool.eq_false_iff.mp h)

/-- A RESCAN accepted while a read of an aborted one was awaited requests its own first read (log 20). -/
theorem Part.takeRead_stale {next : Nat} (h : p.cmd.rescanStale = true) (hlong : p.cmd.long = .rescan next) :
    p.takeRead w = p.requestRead next := by
  simp only [Part.takeRead, houtstanding, hlong, h, if_true]

theorem Part.takeRead_discarded (h : p.cmd.rescanStale = true) (hlong : ∀ next, p.cmd.long ≠ .rescan next) :
    p.takeRead w = { p with cmd := { p.cmd with rescanOutstanding := none, rescanStale := false } } := by
  simp only [Part.takeRead, houtstanding]
  exact if_pos h

end Rescan

theorem exec_rescanReadComplete {s : State} {w : Word} {q : Part} (hlive : s.live) (hdone : s.path.rescanDone = some w)
    (hq : s.part.takeRead w = q) : exec .rescanReadComplete s =
      .next (State.after { s with path := { s.path with rescanDone := none } } q) := by
  subst hq
  simp only [exec, execRescanReadComplete, hdone]
  exact congrArg _ (State.event_after (s := { s with path := { s.path with rescanDone := none } }) hlive)

/-! ## The disposals (R178) -/

section Disposals

/-- A disposal has been taken; `rest` is left. -/
def Part.disposed (p : Part) (rest : List (SnapshotTag × Disposal)) : Part :=
  { p with cmd := { p.cmd with disposals := rest } }

/-- So many records of an aborted SNAPSHOT are awaited. -/
def Part.awaiting (p : Part) (count : Nat) : Part := { p with cmd := { p.cmd with awaitingAborted := count } }

variable {p : Part} {tag : SnapshotTag} {fate : Disposal} {rest : List (SnapshotTag × Disposal)}
  (h : p.cmd.disposals = (tag, fate) :: rest)
include h

theorem Part.disposalDue_some : p.disposalDue = true := by
  rw [Part.disposalDue, h]
  rfl

theorem Part.takeDisposal_complete (htag : tag = .complete) : p.takeDisposal = p.disposed rest := by
  simp only [Part.takeDisposal, h]
  exact if_pos htag

theorem Part.takeDisposal_own (htag : tag ≠ .complete) (hnone : p.cmd.awaitingAborted = 0) :
    p.takeDisposal = (p.disposed rest).continueSnapshot := by
  simp only [Part.takeDisposal, h]
  exact (if_neg htag).trans (if_pos hnone)

/-- The last disposal of an aborted SNAPSHOT lets one accepted meanwhile go on (log 20). -/
theorem Part.takeDisposal_lastAborted (htag : tag ≠ .complete) (hlast : p.cmd.awaitingAborted = 1) :
    p.takeDisposal = ((p.disposed rest).awaiting 0).continueSnapshot := by
  simp only [Part.takeDisposal, h, hlast]
  exact if_neg htag

theorem Part.takeDisposal_aborted {left : Nat} (htag : tag ≠ .complete) (hcount : p.cmd.awaitingAborted = left + 1)
    (hleft : left ≠ 0) : p.takeDisposal = (p.disposed rest).awaiting left := by
  simp only [Part.takeDisposal, h, hcount, Nat.add_sub_cancel]
  exact (if_neg htag).trans ((if_neg (Nat.succ_ne_zero left)).trans (if_neg hleft))

end Disposals

theorem exec_snapshotDisposal {s : State} {tag : SnapshotTag} {fate : Disposal} {rest : List (SnapshotTag × Disposal)}
    {q : Part} (hlive : s.live) (h : s.part.cmd.disposals = (tag, fate) :: rest) (hq : s.part.takeDisposal = q) :
    exec .snapshotDisposal s = .next (s.after q) := by
  subst hq
  exact congrArg _ (State.eventIf_after (due := (·.disposalDue)) (act := (·.takeDisposal)) hlive
    (Part.disposalDue_some h))

/-- Settles O52: the echo, the reads of RESCAN and the disposals, each by what is outstanding. -/
theorem longCommandsGoOn : Obligations.LongCommandsGoOn := by
  refine ⟨?echo, fun p w => ⟨Part.requestEcho_free, Part.requestEcho_held⟩, ?rescan, ?rows, ?disposals⟩
  case echo =>
    intro s hlive hdone t
    exact ⟨fun h => exec_echoWriteComplete hlive hdone (Part.echoCompleted_none h),
      fun w h => exec_echoWriteComplete hlive hdone (Part.echoCompleted_some h)⟩
  case rescan =>
    intro s w off hlive hdone houtstanding t gives read q
    have hgives {r : Part} (hr : s.part.takeRead w = r) : gives r := exec_rescanReadComplete hlive hdone hr
    refine ⟨fun hown => ⟨fun hoff => hgives ?goesOn, fun hoff => hgives ?last⟩, fun hstale =>
      ⟨fun next hlong => hgives (Part.takeRead_stale houtstanding hstale hlong),
        fun hlong => hgives (Part.takeRead_discarded houtstanding hstale hlong)⟩⟩
    case goesOn => exact (Part.takeRead_acts houtstanding hown).trans (Part.continueRescan_goesOn hoff)
    case last =>
      rw [Part.takeRead_acts houtstanding hown, hoff, Part.continueRescan_last, ← hoff]
      rfl
  case rows =>
    intro s off w htakes same
    obtain ⟨hcode, hpending, hprofile, hchan, hgeneral, htone, hcadence, hentry⟩ := s.part.tableWord_at off w
    refine ⟨fun x hx => ?code, fun o ho hp => ?pending, fun n hn => ?profile, fun k hk => ?chan, fun hoff => ?general,
      fun x hx => ?tone, fun hoff => ?cadence, fun d hd => ?entry⟩
    case code => subst hx; exact exec_signalCodeInstall htakes (hcode x rfl).symm
    case pending => subst ho; exact (exec_pendingWordWrite hp htakes).trans (by rw [hpending hp])
    case profile => subst hn; exact (exec_profileCommit htakes).trans (by rw [hprofile n rfl])
    case chan => subst hk; exact exec_channelConfigCommit htakes (hchan k rfl).symm
    case general => subst hoff; exact exec_generalConfigCommit htakes (hgeneral rfl).symm
    case tone => subst hx; exact (exec_toneDescriptorCommit htakes).trans (by rw [htone x rfl])
    case cadence => subst hoff; exact (exec_ringCadenceCommit htakes).trans (by rw [hcadence rfl])
    case entry => subst hd; exact (exec_directoryCommit htakes).trans (by rw [hentry d rfl])
  case disposals =>
    intro s tag fate rest hlive hdisposals p gives next
    have hgives {q : Part} (hq : s.part.takeDisposal = q) : gives q := exec_snapshotDisposal hlive hdisposals hq
    have hnext {q : Part} {i : Nat} (hlong : q.cmd.long = .snapshot i)
        (hq : s.part.takeDisposal = q.continueSnapshot) : next q i := by
      rw [Part.continueSnapshot_goesOn hlong] at hq
      refine ⟨fun n hn => hgives ?line, fun k hk => hgives ?chan, fun hend => hgives ?last⟩
      case line => subst hn; exact hq.trans (q.snapshotNext_line n)
      case chan => subst hk; exact hq.trans (q.snapshotNext_chan k)
      case last => subst hend; exact hq.trans q.snapshotNext_end
    refine ⟨fun htag => hgives (Part.takeDisposal_complete hdisposals htag), fun htag hnone => ?own,
      fun left htag hcount => ?aborted⟩
    case own =>
      have htaken := Part.takeDisposal_own hdisposals htag hnone
      exact ⟨fun i hlong => hnext hlong htaken,
        fun hlong => hgives (htaken.trans (Part.continueSnapshot_none hlong))⟩
    case aborted =>
      intro q
      constructor
      · rintro i rfl hlong
        exact hnext (q := q) hlong (Part.takeDisposal_lastAborted hdisposals htag hcount)
      · intro h
        by_cases hleft : left = 0
        · subst hleft
          exact hgives ((Part.takeDisposal_lastAborted hdisposals htag hcount).trans
            (Part.continueSnapshot_none (p := q) (h.resolve_left fun h => h rfl)))
        · exact hgives (Part.takeDisposal_aborted hdisposals htag hcount hleft)

end Sys2Proof.Machine
end

section
/-! The report queue and the report buffers: what becomes of a record handed, what a header write does by the buffer's state,
which buffer is taken and which record is begun, and then the statement about them (11_reports_and_attention.md, R179, R181 to
R183, R187, Table 11-2). -/

namespace Sys2Proof.Machine

/-! ## A record handed to the report writer (R179) -/

section Hand

variable {p : Part} {kind : RecordKind} {x : Subject} {a b : Word} {tag : SnapshotTag}

theorem Part.groupEnabled_iff :
    p.groupEnabled kind = true ↔ kind.group = 7 ∨ p.gen.enableMask.getLsbD kind.group = true := by
  rw [Part.groupEnabled, Bool.or_eq_true, beq_iff_eq]

theorem Part.hand_discarded (h : p.groupEnabled kind = false) : p.hand kind x a b tag = p :=
  if_neg (Bool.eq_false_iff.mp h)

variable (henabled : p.groupEnabled kind = true)
include henabled

theorem Part.hand_queued (hroom : p.report.queue.length < 8) : p.hand kind x a b tag = { p with
    report := { p.report with queue := p.report.queue ++ [⟨kind, x, a, b, p.clock.ms, tag⟩] } } :=
  (if_pos henabled).trans (if_pos hroom)

/-- Only a snapshot record has a disposal, which the command unit awaits (R178). -/
theorem Part.hand_dropped (hfull : 8 ≤ p.report.queue.length) : p.hand kind x a b tag = { p with
    report := { p.report with lost := min 65535 (p.report.lost + 1) }
    cmd := { p.cmd with disposals :=
      if tag = .notSnapshot then p.cmd.disposals else p.cmd.disposals ++ [(tag, .dropped)] } } :=
  (if_pos henabled).trans (if_neg (Nat.not_lt.mpr hfull))

end Hand

/-! ## A buffer's state word (R181, Table 11-2) -/

@[simp] theorem Report.setBuffer_buffer (r : Report) (x : BufferId) : r.setBuffer x (r.buffer x) = r := by
  cases x with
  | a => rfl
  | b => rfl

@[simp] theorem Report.setBuffer_attnHeld (r : Report) (x : BufferId) (state : BufferState) :
    (r.setBuffer x state).attnHeld = r.attnHeld := by
  cases x with
  | a => rfl
  | b => rfl

/-- R181: a value that is neither DISARMED nor ARMED is ignored. -/
theorem BufferState.written_other {w : Word} (state : BufferState) (h0 : w ≠ 0) (h1 : w ≠ 1) : state.written w = state := by
  cases state with
  | disarmed => exact if_neg h1
  | armed => exact if_neg h0
  | filling => rfl
  | full => exact (if_neg h1).trans (if_neg h0)

theorem State.fullCompleted_iff (s : State) : s.fullCompleted = true ↔
    s.path.reportDone = true ∧ ∃ reason clock, s.part.report.job = .closing reason clock 3 := by
  have hwriting : s.part.report.fullWriting = true ↔ ∃ reason clock, s.part.report.job = .closing reason clock 3 := by
    unfold Report.fullWriting
    split
    case h_1 hjob => simp [hjob]
    case h_2 hjob => simpa using fun reason clock => hjob reason clock 3
  rw [State.fullCompleted, Bool.and_eq_true, hwriting]

section HeaderWrite

variable {p : Part} {x : BufferId} {w : Word} {state : BufferState} {completed : Bool}

theorem Report.armsFull_ne_full {r : Report} (h : r.buffer x ≠ .full) : r.armsFull x w = false := by
  rw [Report.armsFull, beq_eq_false_iff_ne.mpr h, Bool.false_and]

theorem Report.armsFull_ne_armed {r : Report} (h : (r.buffer x).written w ≠ .armed) : r.armsFull x w = false := by
  rw [Report.armsFull, beq_eq_false_iff_ne.mpr h, Bool.and_false]

/-- A write that arms no FULL buffer, or that no completed FULL write precedes, leaves ATTN to the buffers' states. -/
theorem Part.headerWrite_sets (hwritten : (p.report.buffer x).written w = state)
    (hheld : (completed && p.report.armsFull x w) = false) :
    p.headerWrite x w completed = { p with report := p.report.setBuffer x state } := by
  rw [Part.headerWrite, hheld, hwritten, Bool.or_false, ← p.report.setBuffer_attnHeld x state]

/-- R187: ATTN stays asserted for the other buffer, whose FULL write has completed (log 31). -/
theorem Part.headerWrite_holds (hwritten : (p.report.buffer x).written w = .armed) (hfull : p.report.buffer x = .full) :
    p.headerWrite x w true = { p with report := { p.report.setBuffer x .armed with attnHeld := true } } := by
  have harms : p.report.armsFull x w = true := by
    rw [Report.armsFull, hwritten, hfull]
    rfl
  rw [Part.headerWrite, harms, hwritten, Bool.and_self, Bool.or_true]

theorem Part.headerWrite_ignored (hwritten : (p.report.buffer x).written w = p.report.buffer x) :
    p.headerWrite x w completed = p := by
  have harms : p.report.armsFull x w = false := by
    by_cases hfull : p.report.buffer x = .full
    · exact Report.armsFull_ne_armed (by rw [hwritten, hfull]; nofun)
    · exact Report.armsFull_ne_full hfull
  rw [Part.headerWrite_sets hwritten (by rw [harms, Bool.and_false]), Report.setBuffer_buffer]

theorem exec_headerStateWrite {s : State} {q : Part} (h : s.takesWrite (headerOffset x) w)
    (hq : s.part.headerWrite x w s.fullCompleted = q) :
    exec (.headerStateWrite x w) s = .next ((s.served (headerOffset x) w).after q) := by
  subst hq
  exact congrArg _ (State.snooped_after (act := (·.headerWrite x w s.fullCompleted)) h)

end HeaderWrite

/-! ## The taking of a buffer (R182) -/

theorem Report.filling_eq_none_iff (r : Report) : r.filling = none ↔ r.bufferA ≠ .filling ∧ r.bufferB ≠ .filling := by
  unfold Report.filling
  split_ifs <;> simp [*]

section BufferToTake

variable {r : Report}

theorem Report.bufferToTake_a (ha : r.bufferA = .armed) (h : r.bufferB ≠ .armed ∨ r.lastClosed ≠ some .a) :
    r.bufferToTake = some .a := by
  unfold Report.bufferToTake
  split
  case h_1 | h_3 => exact if_pos ha
  case h_2 hlast => exact (if_neg (h.resolve_right (· hlast))).trans (if_pos ha)

theorem Report.bufferToTake_b (hb : r.bufferB = .armed) (h : r.bufferA ≠ .armed ∨ r.lastClosed = some .a) :
    r.bufferToTake = some .b := by
  have hother (hlast : r.lastClosed ≠ some .a) : r.bufferA ≠ .armed := h.resolve_right hlast
  unfold Report.bufferToTake
  split
  case h_1 hlast | h_3 hlast => exact (if_neg (hother (by simp [hlast]))).trans (if_pos hb)
  case h_2 => exact if_pos hb

theorem Report.bufferToTake_none (ha : r.bufferA ≠ .armed) (hb : r.bufferB ≠ .armed) : r.bufferToTake = none := by
  unfold Report.bufferToTake
  split
  case h_1 | h_3 => exact (if_neg ha).trans (if_neg hb)
  case h_2 => exact (if_neg hb).trans (if_neg ha)

end BufferToTake

section TakeBuffer

variable {p : Part}

theorem Part.takeBuffer_rests
    (h : p.report.queue = [] ∨ p.report.filling ≠ none ∨ p.report.bufferToTake = none) : p.takeBuffer = p := by
  unfold Part.takeBuffer
  split
  case isTrue hwaits =>
    have hnone : p.report.bufferToTake = none := (h.resolve_left hwaits.1).resolve_left (· hwaits.2)
    simp only [hnone]
  case isFalse => rfl

theorem Part.takeBuffer_takes {x : BufferId} (hqueue : p.report.queue ≠ []) (hfree : p.report.filling = none)
    (htake : p.report.bufferToTake = some x) : p.takeBuffer = { p with report := { p.report.setBuffer x .filling with
      recordCount := 0, closePending := none, age := ⟨false, 0, false⟩, lost := 0, job := .takeBuffer
      gap := if p.report.lost = 0 then none else some {
        kind := .gap, subject := .none, detailA := BitVec.ofNat 16 p.report.lost, detailB := 0xFFFF, stamp := p.clock.ms
        snapshot := .notSnapshot } } }.request .reportWriter (headerOffset x) (some 2) := by
  unfold Part.takeBuffer
  rw [if_pos ⟨hqueue, hfree⟩]
  simp only [htake]
  rfl

end TakeBuffer

/-! ## The record begun (R183) -/

section BeginRecord

variable {p : Part}

theorem Part.beginRecord_noBuffer (h : p.report.filling = none) : p.beginRecord = p := by
  simp only [Part.beginRecord, h]

theorem Part.beginRecord_busy (h : p.report.job ≠ .none) : p.beginRecord = p := by
  unfold Part.beginRecord
  split
  · exact absurd ‹_› h
  · rfl

variable {x : BufferId} {r : Record} (hx : p.report.filling = some x) (hjob : p.report.job = .none)
include hx hjob

theorem Part.beginRecord_gap (hgap : p.report.gap = some r) :
    p.beginRecord = { p with report := { p.report with job := .gapWord 0 } }.writeRecordWord x r 0 := by
  simp only [Part.beginRecord, hx, hjob, hgap]

theorem Part.beginRecord_head {rest : List Record} (hgap : p.report.gap = none) (hqueue : p.report.queue = r :: rest) :
    p.beginRecord = { p with report := { p.report with job := .headWord 0 } }.writeRecordWord x r 0 := by
  simp only [Part.beginRecord, hx, hjob, hgap, hqueue]

theorem Part.beginRecord_none (hgap : p.report.gap = none) (hqueue : p.report.queue = []) : p.beginRecord = p := by
  simp only [Part.beginRecord, hx, hjob, hgap, hqueue]

end BeginRecord

/-- Settles O55: each operation of the report writer by what it finds. -/
theorem reportQueueAndBuffers : Obligations.ReportQueueAndBuffers := by
  refine ⟨?header, rfl, rfl, ?hand, ?take, ?begin, fun _ => Part.beginRecord_noBuffer⟩
  case header =>
    intro s x w htakes r gives becomes completed
    have hsets {state : BufferState} (hwritten : (r.buffer x).written w = state)
        (hheld : (s.fullCompleted && r.armsFull x w) = false) : becomes state :=
      exec_headerStateWrite htakes (Part.headerWrite_sets hwritten hheld)
    have hignored (hwritten : (r.buffer x).written w = r.buffer x) : gives s.part :=
      exec_headerStateWrite htakes (Part.headerWrite_ignored hwritten)
    have hcompleted : s.fullCompleted = true ↔ completed := s.fullCompleted_iff
    refine ⟨?arms, ?armsHeld, ?disarms, ?ignored⟩
    case arms =>
      rintro rfl (hstate | ⟨hstate, hnot⟩)
      · exact hsets (by rw [hstate]; rfl) (by rw [Report.armsFull_ne_full (by simp [hstate]), Bool.and_false])
      · exact hsets (by rw [hstate]; rfl)
          (by rw [Bool.eq_false_iff.mpr (mt hcompleted.mp hnot), Bool.false_and])
    case armsHeld =>
      rintro rfl hstate hdone
      refine exec_headerStateWrite htakes ?_
      rw [hcompleted.mpr hdone]
      exact Part.headerWrite_holds (by rw [hstate]; rfl) hstate
    case disarms =>
      rintro rfl hstate
      have hwritten : (r.buffer x).written 0 = .disarmed := by
        rcases hstate with hstate | hstate
        · rw [hstate]; rfl
        · rw [hstate]; rfl
      exact hsets hwritten (by rw [Report.armsFull_ne_armed (by rw [hwritten]; nofun), Bool.and_false])
    case ignored =>
      rintro (hstate | ⟨h0, h1⟩ | ⟨rfl, hstate⟩ | ⟨rfl, hstate⟩)
      · exact hignored (by rw [hstate]; rfl)
      · exact hignored (BufferState.written_other _ h0 h1)
      · exact hignored (by rw [hstate]; rfl)
      · exact hignored (by rw [hstate]; rfl)
  case hand =>
    intro p kind subject a b tag q
    refine ⟨Part.groupEnabled_iff, Part.hand_discarded, Part.hand_queued, ?dropped⟩
    intro henabled hfull dropped
    have hdropped : q = _ := Part.hand_dropped henabled hfull
    exact ⟨fun htag => by rw [hdropped, if_pos htag], fun htag => by rw [hdropped, if_neg htag]⟩
  case take =>
    intro p r free taken
    have hfilling : r.filling = none ↔ free := r.filling_eq_none_iff
    refine ⟨fun h => Part.takeBuffer_rests ?rests, fun hqueue hfree => ⟨fun ha h => ?a, fun hb h => ?b⟩⟩
    case rests => exact h.imp_right (Or.imp (mt hfilling.mp) fun ⟨ha, hb⟩ => Report.bufferToTake_none ha hb)
    case a => exact Part.takeBuffer_takes hqueue (hfilling.mpr hfree) (Report.bufferToTake_a ha h)
    case b => exact Part.takeBuffer_takes hqueue (hfilling.mpr hfree) (Report.bufferToTake_b hb h)
  case begin =>
    intro p x hx writes
    exact ⟨Part.beginRecord_busy, fun g hjob hgap => Part.beginRecord_gap hx hjob hgap,
      fun r rest hjob hgap hqueue => Part.beginRecord_head hx hjob hgap hqueue,
      fun hjob hgap hqueue => Part.beginRecord_none hx hjob hgap hqueue⟩

end Sys2Proof.Machine
end

section
/-! The report writer's own writes: how a buffer is closed, what the completion of each write does, and when ATTN is asserted,
and then the statement about them (11_reports_and_attention.md, R183 to R185, R187). -/

namespace Sys2Proof.Machine

/-! ## Closing a buffer (R184, R185) -/

/-- R185: what closing a buffer stops, and the first of its own writes. -/
theorem Part.closeBuffer_eq (p : Part) (x : BufferId) (reason : CloseReason) : p.closeBuffer x reason =
    { p with report := { p.report with
      age := ⟨false, 0, false⟩, closePending := none, job := .closing reason p.clock.ms 0 } }.request .reportWriter
        (headerOffset x + 1) (some (BitVec.ofNat 16 p.report.recordCount)) := rfl

section Close

variable {p : Part} {x : BufferId} {reason : CloseReason}

theorem Part.closeOrPend_noBuffer (h : p.report.filling = none) : p.closeOrPend reason = p := by
  simp only [Part.closeOrPend, h]

variable (hx : p.report.filling = some x)
include hx

/-- R187: between records the buffer closes at once. -/
theorem Part.closeOrPend_closes (h : p.report.job = .none ∨ p.report.job = .awaitExpiry) :
    p.closeOrPend reason = p.closeBuffer x reason := by
  rcases h with h | h
  · simp only [Part.closeOrPend, hx, h]
  · simp only [Part.closeOrPend, hx, h]

theorem Part.closeOrPend_closing {old : CloseReason} {clock : Word} {i : Fin 4}
    (h : p.report.job = .closing old clock i) : p.closeOrPend reason = p := by
  simp only [Part.closeOrPend, hx, h]

/-- While a word is being written the close is pending, for the first reason that came. -/
theorem Part.closeOrPend_pends
    (h : p.report.job = .takeBuffer ∨ (∃ i, p.report.job = .gapWord i) ∨ ∃ i, p.report.job = .headWord i) :
    p.closeOrPend reason = { p with report := { p.report with
      closePending := some (p.report.closePending.getD reason) } } := by
  unfold Part.closeOrPend
  split
  case h_1 hnone => exact nomatch hnone.symm.trans hx
  case h_2 hjob | h_3 hjob | h_4 hjob => simp [hjob] at h
  case h_5 =>
    split
    case h_1 hpending => rw [hpending, Option.getD_none]
    case h_2 old hpending => rw [hpending, Option.getD_some, ← hpending]

end Close

/-! ## The fourth word of a record (R183, R184) -/

/-- R183: a record whose fourth word has completed is counted, and the first one starts the age timer. -/
def Part.recordCounted (p : Part) : Part :=
  { p with report := { p.report with
    recordCount := p.report.recordCount + 1
    job := .none
    age := if p.report.recordCount = 0 then .started else p.report.age } }

section ClosingReason

variable {p : Part} {kind : RecordKind}

theorem Part.closingReason_pending {reason : CloseReason} (h : p.report.closePending = some reason) :
    p.closingReason kind = some reason := by
  simp only [Part.closingReason, h]

/-- R184: with no close pending, a full buffer comes before an urgent record. -/
theorem Part.closingReason_judged (h : p.report.closePending = none) : p.closingReason kind =
    if p.report.recordCount = 120 then some .count
    else if p.gen.urgentMask.getLsbD kind.group = true then some .urgent
    else none := by
  simp only [Part.closingReason, h]
  rfl

end ClosingReason

section RecordWritten

variable {p : Part} {x : BufferId} {kind : RecordKind} {reason : CloseReason}

theorem Part.recordWritten_closes (h : p.recordCounted.closingReason kind = some reason) :
    p.recordWritten x kind = p.recordCounted.closeBuffer x reason := by
  unfold Part.recordCounted at h ⊢
  simp only [Part.recordWritten, h]

theorem Part.recordWritten_stays (h : p.recordCounted.closingReason kind = none) :
    p.recordWritten x kind = p.recordCounted.meetExpiry := by
  unfold Part.recordCounted at h ⊢
  simp only [Part.recordWritten, h]

theorem Part.recordWritten_pending (h : p.report.closePending = some reason) :
    p.recordWritten x kind = p.recordCounted.closeBuffer x reason :=
  Part.recordWritten_closes (Part.closingReason_pending h)

/-- R184, R187: with no close pending, COUNT, then URGENT, then an age expiry that stands (log 32). -/
theorem Part.recordWritten_judged (h : p.report.closePending = none) : p.recordWritten x kind =
    if p.report.recordCount + 1 = 120 then p.recordCounted.closeBuffer x .count
    else if p.gen.urgentMask.getLsbD kind.group = true then p.recordCounted.closeBuffer x .urgent
    else p.recordCounted.meetExpiry := by
  have hjudged := Part.closingReason_judged (p := p.recordCounted) (kind := kind) h
  split_ifs with hcount hurgent
  · exact Part.recordWritten_closes (hjudged.trans (if_pos hcount))
  · exact Part.recordWritten_closes (hjudged.trans ((if_neg hcount).trans (if_pos hurgent)))
  · exact Part.recordWritten_stays (hjudged.trans ((if_neg hcount).trans (if_neg hurgent)))

end RecordWritten

section DropHead

variable {p : Part} {r : Record} {rest : List Record} (hqueue : p.report.queue = r :: rest)
include hqueue

theorem Part.dropHead_own (h : r.snapshot = .notSnapshot) :
    p.dropHead r = { p with report := { p.report with queue := rest } } := by
  rw [Part.dropHead, hqueue, if_pos h, List.tail_cons]

/-- R178: the command unit is handed the disposal of a snapshot record. -/
theorem Part.dropHead_snapshot (h : r.snapshot ≠ .notSnapshot) : p.dropHead r = { p with
    report := { p.report with queue := rest }
    cmd := { p.cmd with disposals := p.cmd.disposals ++ [(r.snapshot, .written)] } } := by
  rw [Part.dropHead, hqueue, if_neg h, List.tail_cons]

end DropHead

/-! ## The completions (R183, R185) -/

/-- The word of a record, or the step of a close, that follows another. -/
theorem next_of_val_succ {i j : Fin 4} (h : j.val = i.val + 1) : i ≠ 3 ∧ i + 1 = j := by
  decide +revert

section WordWritten

variable {p : Part} {x : BufferId} {i : Fin 4} (hx : p.report.filling = some x)
include hx

theorem Part.wordWritten_taken (h : p.report.job = .takeBuffer) :
    p.wordWritten = { p with report := { p.report with job := .none } } := by
  simp only [Part.wordWritten, hx, h]

section Gap

variable {g : Record} (hjob : p.report.job = .gapWord i) (hgap : p.report.gap = some g)
include hjob hgap

theorem Part.wordWritten_gapNext {j : Fin 4} (hj : j.val = i.val + 1) : p.wordWritten =
    { p with report := { p.report with job := .gapWord j } }.writeRecordWord x g j := by
  obtain ⟨hi, rfl⟩ := next_of_val_succ hj
  simp only [Part.wordWritten, hx, hjob, hgap]
  exact if_neg hi

theorem Part.wordWritten_gapLast (hi : i = 3) :
    p.wordWritten = { p with report := { p.report with gap := none } }.recordWritten x g.kind := by
  simp only [Part.wordWritten, hx, hjob, hgap]
  exact if_pos hi

end Gap

section Head

variable {r : Record} {rest : List Record} (hjob : p.report.job = .headWord i) (hqueue : p.report.queue = r :: rest)
include hjob hqueue

theorem Part.wordWritten_headNext {j : Fin 4} (hj : j.val = i.val + 1) : p.wordWritten =
    { p with report := { p.report with job := .headWord j } }.writeRecordWord x r j := by
  obtain ⟨hi, rfl⟩ := next_of_val_succ hj
  simp only [Part.wordWritten, hx, hjob, hqueue]
  exact if_neg hi

theorem Part.wordWritten_headLast (hi : i = 3) : p.wordWritten = (p.dropHead r).recordWritten x r.kind := by
  simp only [Part.wordWritten, hx, hjob, hqueue]
  exact if_pos hi

end Head

section Closing

variable {reason : CloseReason} {clock : Word} (hjob : p.report.job = .closing reason clock i)
include hjob

theorem Part.wordWritten_closingNext {j : Fin 4} (hj : j.val = i.val + 1) :
    p.wordWritten = p.writeClosing x reason clock j := by
  obtain ⟨hi, rfl⟩ := next_of_val_succ hj
  simp only [Part.wordWritten, hx, hjob]
  exact if_neg hi

theorem Part.wordWritten_closingLast (hi : i = 3) : p.wordWritten = p.bufferFull x := by
  simp only [Part.wordWritten, hx, hjob]
  exact if_pos hi

end Closing

end WordWritten

/-! ## The rows -/

theorem exec_reportWordWriteComplete {s : State} {q : Part} (hlive : s.live) (hdone : s.path.reportDone = true)
    (hq : s.part.wordWritten = q) : exec .reportWordWriteComplete s =
      .next (State.after { s with path := { s.path with reportDone := false } } q) := by
  subst hq
  exact congrArg _ ((if_pos hdone).trans
    (State.event_after (s := { s with path := { s.path with reportDone := false } }) hlive))

theorem exec_ageTimerExpiry {s : State} (hlive : s.live) (hdue : s.part.report.age.due = true) :
    exec .ageTimerExpiry s = .next (s.after s.part.ageExpired) :=
  congrArg _ (State.eventIf_after (due := (·.ageDue)) (act := (·.ageExpired)) hlive hdue)

theorem Part.attention_iff (p : Part) : p.attention = true ↔
    p.report.bufferA = .full ∨ p.report.bufferB = .full ∨ p.report.attnHeld = true := by
  rw [Part.attention, Bool.or_eq_true, Bool.or_eq_true, beq_iff_eq, beq_iff_eq, or_assoc]

/-- Settles O56: each completion by the write that was on its way, each close by what is being written. -/
theorem reportWriterWritesAndCloses : Obligations.ReportWriterWritesAndCloses := by
  refine ⟨?completion, fun _ => exec_ageTimerExpiry, ?close, Part.attention_iff⟩
  case completion =>
    intro s x hlive hdone hx p r base t gives slot counted closesAs judged
    have hgives {q : Part} (hq : p.wordWritten = q) : gives q := exec_reportWordWriteComplete hlive hdone hq
    have hjudged (queue : List Record) (gap : Option Record) (cmd : CommandUnit) (kind : RecordKind) :
        let q : Part := { p with report := { r with queue := queue, gap := gap }, cmd := cmd }
        q.recordWritten x kind = judged (counted q) kind.group := by
      intro q
      cases hpending : r.closePending with
      | some reason =>
        simp only [judged, hpending]
        exact Part.recordWritten_pending (p := q) hpending
      | none =>
        simp only [judged, hpending]
        exact Part.recordWritten_judged (p := q) hpending
    refine ⟨fun hjob => hgives (Part.wordWritten_taken hx hjob),
      fun g i j hjob hgap => ⟨fun hj => ?gapNext, fun hi => ?gapLast⟩,
      fun a rest i j hjob hqueue => ⟨fun hj => ?headNext, fun hi hown => ?headOwn, fun hi hsnapshot => ?headSnapshot⟩,
      ?closing⟩
    case gapNext => exact hgives (Part.wordWritten_gapNext hx hjob hgap hj)
    case gapLast => exact hgives ((Part.wordWritten_gapLast hx hjob hgap hi).trans (hjudged r.queue none p.cmd g.kind))
    case headNext => exact hgives (Part.wordWritten_headNext hx hjob hqueue hj)
    case headOwn =>
      have hlast := Part.wordWritten_headLast hx hjob hqueue hi
      rw [Part.dropHead_own hqueue hown] at hlast
      exact hgives (hlast.trans (hjudged rest r.gap p.cmd a.kind))
    case headSnapshot =>
      have hlast := Part.wordWritten_headLast hx hjob hqueue hi
      rw [Part.dropHead_snapshot hqueue hsnapshot] at hlast
      exact hgives (hlast.trans (hjudged rest r.gap _ a.kind))
    case closing =>
      intro reason clock next
      exact ⟨fun hjob => hgives (Part.wordWritten_closingNext hx hjob (j := 1) rfl),
        fun hjob => hgives (Part.wordWritten_closingNext hx hjob (j := 2) rfl),
        fun hjob => hgives (Part.wordWritten_closingNext hx hjob (j := 3) rfl),
        fun hjob => hgives (Part.wordWritten_closingLast hx hjob rfl)⟩
  case close =>
    intro p reason
    exact ⟨Part.closeOrPend_noBuffer, fun x hx =>
      ⟨fun h => (Part.closeOrPend_closes hx h).trans (p.closeBuffer_eq x reason),
        fun old clock i h => Part.closeOrPend_closing hx h, Part.closeOrPend_pends hx⟩⟩

end Sys2Proof.Machine
end

section
/-! How a step takes its command from the queue, and then the statement about it (95_what_each_step_holds.md). -/

namespace Sys2Proof.Machine

theorem step_of_pending_cons {s : State} {c : Instr} {rest : List Instr} (hfront : s.pending = c :: rest) :
    step s = exec c { s with pending := rest } := by
  simp only [step, hfront]

/-- Settles O1: the queue's rest is the queue that `s` has, so the command runs on `s` itself. -/
theorem stepRunsFrontCommand : Obligations.StepRunsFrontCommand := by
  intro c s
  exact step_of_pending_cons (s := { s with pending := c :: s.pending }) rfl

end Sys2Proof.Machine
end
